-- ==== Sys2Proof/Word.lean ====
section
/-! DEFINITION. The word types of the block: the widths of 10_state.md's register table and of
30_encoding.md rule R80's op word. Every value is unsigned and BitVec arithmetic is modulo 2^N
(00_scope.md rule R12). -/

namespace Sys2Proof

/-- An 8-bit value: ZH, BH, LE, BON, BOFF and the blink parameters (00_scope.md rules R10, R11). -/
abbrev Byte := BitVec 8

/-- One 8-bit op word of format F0 (30_encoding.md rule R80). -/
abbrev OpWord := BitVec 8

/-- A 16-bit value: CL, CNT, TGT, SL (00_scope.md rules R10, R11). -/
abbrev Word16 := BitVec 16

/-- A 32-bit value: LEVEL, MTIMER and the straps they are compared with (00_scope.md rule R11). -/
abbrev Word32 := BitVec 32

/-- The 3-bit schedule index uPC (10_state.md rule R37). -/
abbrev StepIndex := BitVec 3

end Sys2Proof
end

