-- ==== Sys2Proof/Config.lean ====
section
/-! DEFINITION. The configuration straps of 00_scope.md rule R9 (fixed for a run, never written,
10_state.md rule R38), the raw numbers an integrator sets them to, and the free values of the
environment's draws (20_memory.md rule R68). -/

namespace Sys2Proof

/-- SCHEDULE (00_scope.md rule R9): whether the mode sequencer drives the engine or a host does. -/
inductive Schedule where
  | full
  | engineOnly
  deriving DecidableEq, Repr, Inhabited

/-- One blink pattern in semicycles: BLINK_ON[m] and BLINK_OFF[m] of one mode (44_sequencer.md rule R177). -/
structure BlinkPattern where
  on : Byte
  off : Byte
  deriving DecidableEq, Repr, Inhabited

/-- BLINK_ON[·] and BLINK_OFF[·], one pattern for each of the seven modes (00_scope.md rule R9). -/
structure BlinkTable where
  rampUp : BlinkPattern
  steady : BlinkPattern
  rampDown : BlinkPattern
  offRamp : BlinkPattern
  off : BlinkPattern
  onRamp : BlinkPattern
  on : BlinkPattern
  deriving DecidableEq, Repr, Inhabited

/-- The seven patterns as a list, in the order of the modes' codes. -/
def BlinkTable.patterns (t : BlinkTable) : List BlinkPattern :=
  [t.rampUp, t.steady, t.rampDown, t.offRamp, t.off, t.onRamp, t.on]

/-- The configuration parameters of 00_scope.md rule R9. A parameter with a source default has it
here as its default; the OPEN ones have none. Durations are numbers of the unit in their name: the
model has no time and no rule's result depends on them (00_scope.md rule R8; log 10). -/
structure Config where
  /-- MARGIN -/
  margin : Word16 := 0x0090
  /-- FIRE_COMP -/
  fireComp : Word16 := 15
  /-- PULSE_US, in microseconds -/
  pulseUs : Nat := 100
  /-- COMP_DELAY_US, in microseconds -/
  compDelayUs : Nat := 63
  /-- COMP_PHASE -/
  compPhase : Bool := true
  /-- CL_SENTINEL -/
  clSentinel : Word16 := 0xFFFF
  /-- TGT_SENTINEL -/
  tgtSentinel : Word16 := 0xFFFF
  /-- CALIB_TICKS -/
  calibTicks : Word16 := 5
  /-- BTN_PATTERN -/
  btnPattern : Byte := 0x01
  /-- LEVEL_MAX -/
  levelMax : Word32 := 0x7FFFFFFF
  /-- STEP_UP (OPEN) -/
  stepUp : Word32
  /-- STEP_DOWN (OPEN) -/
  stepDown : Word32
  /-- STEP_OFF (OPEN) -/
  stepOff : Word32
  /-- STEP_ON (OPEN) -/
  stepOn : Word32
  /-- STEADY_SEMICYCLES (OPEN) -/
  steadySemicycles : Word32
  /-- RAMPDOWN_SEMICYCLES (OPEN) -/
  rampDownSemicycles : Word32
  /-- BLINK_ON[·], BLINK_OFF[·] (OPEN) -/
  blink : BlinkTable
  /-- SCHEDULE (OPEN) -/
  schedule : Schedule
  /-- T_ITER (OPEN), in nanoseconds; read by no rule of a model without time (70_reset R251). -/
  tIterNs : Nat
  deriving DecidableEq, Repr, Inhabited

/-- The test configuration TC of 95_test_vectors.md section 0: the source defaults, and a value for
each OPEN parameter. DESIGN CHOICE (log 1), unsafe if a claim leaned on it: it is no claim about the
original device, so no statement is about TC alone. T_ITER is not in TC: 6667 ns, from the derived
row of 70_reset_and_hazards.md rule R250 (log 10). -/
def Config.tc : Config where
  stepUp := 0x10000000
  stepDown := 0x08000000
  stepOff := 0x20000000
  stepOn := 0x40000000
  steadySemicycles := 3
  rampDownSemicycles := 2
  blink := {
    rampUp := ⟨1, 1⟩
    steady := ⟨1, 0⟩
    rampDown := ⟨2, 2⟩
    offRamp := ⟨1, 1⟩
    off := ⟨3, 5⟩
    onRamp := ⟨1, 1⟩
    on := ⟨1, 0⟩ }
  schedule := .full
  tIterNs := 6667

/-- One blink pattern as the integrator writes it, before any range check. -/
structure BlinkNumbers where
  on : Nat
  off : Nat
  deriving DecidableEq, Repr

/-- The straps as plain numbers, before the range check of 60_exceptions.md rule R204: here a value
can be too wide for its parameter. The blink list holds one entry for each mode, in code order. -/
structure StrapNumbers where
  margin : Nat
  fireComp : Nat
  pulseUs : Nat
  compDelayUs : Nat
  compPhase : Nat
  clSentinel : Nat
  tgtSentinel : Nat
  calibTicks : Nat
  btnPattern : Nat
  levelMax : Nat
  stepUp : Nat
  stepDown : Nat
  stepOff : Nat
  stepOn : Nat
  steadySemicycles : Nat
  rampDownSemicycles : Nat
  blink : List BlinkNumbers
  schedule : Schedule
  tIterNs : Nat
  deriving DecidableEq, Repr

/-- One reading of the three host ports `level_in`, `blink_on_in`, `blink_off_in` (10_state.md rule R40). -/
structure HostPorts where
  level : Word16
  blinkOn : Byte
  blinkOff : Byte
  deriving DecidableEq, Repr, Inhabited

/-- FREE VALUE (20_memory.md rule R68): what the environment drives on `zc_in` for sample number `n`
where State lists no sample for it. Nothing is known of it (log 2). -/
opaque Config.freeZcIn : Nat → Bool

/-- FREE VALUE (20_memory.md rule R68; 60_exceptions.md rule R207: "No assumption is made of
`btn_in`"): sample number `n` of `btn_in` where State lists none (log 2). -/
opaque Config.freeBtnIn : Nat → Bool

/-- FREE VALUE (60_exceptions.md rule R207: the host may drive any value): reading number `n` of the
host ports where State lists none (log 2). -/
opaque Config.freeHostIn : Nat → HostPorts

end Sys2Proof
end

