-- ==== Sys2Proof/Machine/State.lean ====
section
/-! DEFINITION. The state of the block: the registers of 10_state.md rules R21 to R37, the pins and
ports of rule R40, the output trace and bookkeeping of rules R42 and R43, the refusal mark of
60_exceptions.md rule R206, and the reset state of 70_reset_and_hazards.md rule R230. -/

namespace Sys2Proof.Machine

/-- Why the machine stops with a fault: never. The block raises no exception and has no fault
mechanism (60_exceptions.md rule R200; 93 section 1: "No behaviour is treated as `fault`"), so there
is no constructor and no step can answer one. Safe (log 14). -/
inductive Fault where
  deriving DecidableEq, Repr

/-- Why a step is refused. -/
inductive Refusal where
  /-- Raised by an arm of exec whose instruction has no meaning yet; no arm of this model does. Safe. -/
  | notModelled (mnemonic : String)
  /-- Raised when the word to run is reserved: MAJOR 0x0 or 0xA to 0xF, or SUB not 0
  (60_exceptions.md rule R202). Safe. -/
  | reservedOpWord
  /-- Raised by SEQ.STEP and SEQ.NEXT when MODE = 7 (60_exceptions.md rule R203). Safe. -/
  | reservedMode
  /-- Raised before a micro-operation runs when a strap is out of its range (60_exceptions.md rule
  R204). Safe. -/
  | configOutOfRange
  /-- Raised by the micro-sequencer when uPC = 7 in ENGINE_ONLY, a step 30_encoding.md rule R86 calls
  unused and no run from reset reaches. Safe (log 6). -/
  | unusedScheduleStep
  /-- Raised when a harness has no word left in its trace program: there is no instruction to run.
  Safe (log 7). -/
  | traceProgramEnded
  deriving DecidableEq, Repr

/-- The sequencer's modes (10_state.md rule R34; 44_sequencer.md rule R170). MODE is 3 bits wide, so
the reserved code 7 is a value it can hold. -/
inductive Mode where
  | rampUp
  | steady
  | rampDown
  | offRamp
  | off
  | onRamp
  | on
  /-- code 7, reserved: written by no rule -/
  | reserved
  deriving DecidableEq, Repr

/-- The events of the output trace (10_state.md rule R42). -/
inductive Event where
  /-- `Fire(sc, c)`: a fire pulse in semicycle `sc`, issued when CNT = `c` -/
  | fire (sc : Nat) (c : Word16)
  /-- `PulseEnd` -/
  | pulseEnd
  /-- `CompDelay(sc)` -/
  | compDelay (sc : Nat)
  /-- `Led(v)` -/
  | led (v : Bool)
  /-- `Tick(sc)` -/
  | tick (sc : Nat)
  deriving DecidableEq, Repr

/-- Who supplies the op words. -/
inductive Driver where
  /-- the micro-sequencer: the fixed schedule at uPC (30_encoding.md rule R86) -/
  | sequencer
  /-- a test harness with the words of its trace program still to run (30_encoding.md rule R89; log 5) -/
  | harness (rest : List OpWord)
  deriving DecidableEq, Repr

/-- The whole state. 1-bit registers are Bool, with true for 1 (log 12). -/
structure State where
  /-- the straps (10_state.md rule R38): read, never written -/
  cfg : Config
  /-- CL, CycleLength (R22) -/
  cl : Word16
  /-- PH, SemicyclePhase (R23) -/
  ph : Bool
  /-- ZH, zero-cross history (R24) -/
  zh : Byte
  /-- CNT, loop counter (R25) -/
  cnt : Word16
  /-- TGT, PhaseTarget (R26) -/
  tgt : Word16
  /-- FIRED (R27) -/
  fired : Bool
  /-- ZDONE (R28) -/
  zdone : Bool
  /-- CALDONE (R29) -/
  caldone : Bool
  /-- SL, ScaledLevel (R30) -/
  sl : Word16
  /-- BH, button history (R31) -/
  bh : Byte
  /-- PRESS (R32) -/
  press : Bool
  /-- LS, blink state (R33) -/
  ls : Bool
  /-- LE, blink elapsed count (R33) -/
  le : Byte
  /-- BON (R33) -/
  bon : Byte
  /-- BOFF (R33) -/
  boff : Byte
  /-- MODE (R34) -/
  mode : Mode
  /-- LEVEL (R35) -/
  level : Word32
  /-- MTIMER (R36) -/
  mtimer : Word32
  /-- uPC (R37) -/
  upc : StepIndex
  /-- output pin `triac_n`, active low (R40, R41) -/
  triacN : Bool
  /-- output pin `led` (R40) -/
  led : Bool
  /-- the output trace, oldest event first (R42) -/
  trace : List Event
  /-- sc, completed CYC.ENDs since reset (R43) -/
  sc : Nat
  /-- the refusal mark (60_exceptions.md rule R206; log 8) -/
  refusalMark : Option Refusal
  /-- input pin `rst`: its level at each step boundary to come, then 0 (log 3) -/
  rstIn : List Bool
  /-- input pin `zc_in`: its samples to come, then free values (log 2) -/
  zcIn : List Bool
  /-- input pin `btn_in`: its samples to come, then free values (log 2) -/
  btnIn : List Bool
  /-- the host ports: their readings to come, then free values (log 2) -/
  hostIn : List HostPorts
  /-- how many `zc_in` samples were taken: the model's own, names the next free value (log 2) -/
  zcTaken : Nat
  /-- how many `btn_in` samples were taken (log 2) -/
  btnTaken : Nat
  /-- how many host port readings were taken (log 2) -/
  hostTaken : Nat
  /-- who supplies the op words (log 5) -/
  driver : Driver
  deriving DecidableEq, Repr

/-- The state right after reset under the straps `c` (70_reset_and_hazards.md rule R230; 10_state.md
rule R43). CL and TGT take their sentinel straps (log 4). What is not hardware state here is chosen
by the model: nothing listed of the environment, no sample taken yet, the micro-sequencer driving
(log 2, log 3, log 5). -/
def State.resetWith (c : Config) : State where
  cfg := c
  cl := c.clSentinel
  ph := false
  zh := 0x00
  cnt := 0x0000
  tgt := c.tgtSentinel
  fired := false
  zdone := false
  caldone := false
  sl := 0x0000
  bh := 0x00
  press := false
  ls := false
  le := 0x00
  bon := 0x00
  boff := 0x00
  mode := .rampUp
  level := 0x00000000
  mtimer := 0x00000000
  upc := 0
  triacN := true
  led := false
  trace := []
  sc := 0
  refusalMark := none
  rstIn := []
  zcIn := []
  btnIn := []
  hostIn := []
  zcTaken := 0
  btnTaken := 0
  hostTaken := 0
  driver := .sequencer

/-- The machine right after reset. Its straps are TC: DESIGN CHOICE (log 1), no statement rests on them. -/
def State.reset : State := State.resetWith Config.tc

end Sys2Proof.Machine
end

