-- ==== Sys2Proof/Machine/Ops.lean ====
section
/-! DEFINITION. The shared operations of 00_scope.md rule R13's notation: SamplePin, DrivePin, Emit,
Wait, the host port reading, the port view `press_out`, and reset. The block takes no exception and
returns from none (60_exceptions.md rules R200, R210, R211), so there is no such operation here. -/

namespace Sys2Proof.Machine

/-- The input pins that a micro-operation samples (20_memory.md rule R64). -/
inductive InPin where
  | zcIn
  | btnIn
  deriving DecidableEq, Repr

/-- The output pins (20_memory.md rule R65). -/
inductive OutPin where
  | triacN
  | led
  deriving DecidableEq, Repr

/-- The value the next SamplePin(p) returns: the environment's, listed in State or free
(20_memory.md rules R64, R68, R73; log 2). -/
def pinLevel (p : InPin) (s : State) : Bool :=
  match p with
  | .zcIn => s.zcIn.headD (Config.freeZcIn s.zcTaken)
  | .btnIn => s.btnIn.headD (Config.freeBtnIn s.btnTaken)

/-- The state after SamplePin(p): the environment's next sample is a new one; nothing else changes
(20_memory.md rule R64: "A sample has no side effect"). -/
def afterSample (p : InPin) (s : State) : State :=
  match p with
  | .zcIn => { s with zcIn := s.zcIn.tail, zcTaken := s.zcTaken + 1 }
  | .btnIn => { s with btnIn := s.btnIn.tail, btnTaken := s.btnTaken + 1 }

/-- What the host drives on its three ports at the next HOST.LOAD (60_exceptions.md rule R207; log 2). -/
def hostPorts (s : State) : HostPorts := s.hostIn.headD (Config.freeHostIn s.hostTaken)

/-- The state after the ports were read once (44_sequencer.md rule R186). -/
def afterHostRead (s : State) : State :=
  { s with hostIn := s.hostIn.tail, hostTaken := s.hostTaken + 1 }

/-- DrivePin(p, v): an output pin holds its last driven value (20_memory.md rule R65). -/
def drivePin (p : OutPin) (v : Bool) (s : State) : State :=
  match p with
  | .triacN => { s with triacN := v }
  | .led => { s with led := v }

/-- Emit(e): appends an event to the output trace (10_state.md rule R42). -/
def emit (e : Event) (s : State) : State := { s with trace := s.trace ++ [e] }

/-- Wait(d): no pin is sampled, no register changes, the output pins keep their values (20_memory.md
rule R66). In a model without time nothing of it is left but the events around it (log 10). -/
def wait (_microseconds : Nat) (s : State) : State := s

/-- The port `press_out`, which exists in ENGINE_ONLY only and shows PRESS (10_state.md rule R40;
42_button.md rule R154; log 11). -/
def pressOut (s : State) : Option Bool :=
  match s.cfg.schedule with
  | .full => none
  | .engineOnly => some s.press

/-- The level of `rst` at this step boundary (70_reset_and_hazards.md rule R230; log 3). -/
def rstLevel (s : State) : Bool := s.rstIn.headD false

/-- The state once this boundary's level of `rst` was read. -/
def afterRst (s : State) : State := { s with rstIn := s.rstIn.tail }

/-- The block while `rst` = 1 (70_reset_and_hazards.md rules R230, R232): every register and output
pin at its reset value, trace, sc and refusal mark as after reset; the straps, what the environment
has still to drive and who supplies the words are not the block's and stay (log 15). -/
def holdReset (s : State) : State :=
  { State.resetWith s.cfg with
    rstIn := s.rstIn.tail
    zcIn := s.zcIn
    btnIn := s.btnIn
    hostIn := s.hostIn
    zcTaken := s.zcTaken
    btnTaken := s.btnTaken
    hostTaken := s.hostTaken
    driver := s.driver }

/-- Sets the refusal mark (60_exceptions.md rules R202, R206). -/
def markRefused (r : Refusal) (s : State) : State := { s with refusalMark := some r }

end Sys2Proof.Machine
end

