-- ==== Sys2Proof/Machine/Operands.lean ====
section
/-! DEFINITION. The implicit operands (30_encoding.md rule R81): the shift registers' order, EXP(PH),
the encoding of MODE, ScaledLevel, the level steps, and the saturating counters. -/

namespace Sys2Proof.Machine

/-- `{R[6:0], s}`: the newest sample enters bit 0, bit 7 is discarded (20_memory.md rule R62). -/
def shiftIn (r : Byte) (b : Bool) : Byte := (r <<< 1) ||| (BitVec.ofBool b).setWidth 8

/-- EXP(PH), the value of ZH that ends the loop (41_cycle.md rule R121). -/
def expPattern (ph : Bool) : Byte := if ph then 0x00 else 0xFF

/-- The level whose 8 samples in a row make EXP(PH): EXP(PH)[0] (60_exceptions.md rule R207, EA1). -/
def exitLevel (ph : Bool) : Bool := (expPattern ph).getLsbD 0

/-- The code of MODE (10_state.md rule R34). -/
def Mode.code : Mode → BitVec 3
  | .rampUp => 0
  | .steady => 1
  | .rampDown => 2
  | .offRamp => 3
  | .off => 4
  | .onRamp => 5
  | .on => 6
  | .reserved => 7

/-- The value of MODE with a given code (10_state.md rule R34). -/
def Mode.ofCode (c : BitVec 3) : Mode :=
  match c.toNat with
  | 0 => .rampUp
  | 1 => .steady
  | 2 => .rampDown
  | 3 => .offRamp
  | 4 => .off
  | 5 => .onRamp
  | 6 => .on
  | _ => .reserved

/-- ScaledLevel, `((LEVEL >> 16) << 1)[15:0]` (44_sequencer.md rule R176). -/
def scaledLevel (level : Word32) : Word16 := ((level >>> 16) <<< 1).setWidth 16

/-- A rising step, `min(l + s, LEVEL_MAX)`, computed exactly (44_sequencer.md rule R172; log 19). -/
def levelUp (l step levelMax : Word32) : Word32 :=
  BitVec.ofNat 32 (min (l.toNat + step.toNat) levelMax.toNat)

/-- A falling step: clamps at 0, never wraps (44_sequencer.md rule R173). -/
def levelDown (l step : Word32) : Word32 := if l ≤ step then 0 else l - step

/-- `sat_inc32` (44_sequencer.md rule R171). -/
def satInc32 (x : Word32) : Word32 := if x = 0xFFFFFFFF then x else x + 1

/-- BLINK's saturating elapsed count (43_blink.md rule R160). -/
def satInc8 (x : Byte) : Byte := if x = 0xFF then x else x + 1

end Sys2Proof.Machine
end

