-- ==== Sys2Proof/Machine/Flags.lean ====
section
/-! DEFINITION. The conditions of the block's flags FIRED, ZDONE, CALDONE and PRESS (10_state.md rule
R39) and of the blinker's switch. There are no arithmetic condition codes. -/

namespace Sys2Proof.Machine

/-- A fire pulse is issued: FIRED = 0, CNT = TGT, TGT ≠ TGT_SENTINEL (41_cycle.md rule R126). -/
def fireDue (s : State) : Bool :=
  !s.fired && s.cnt == s.tgt && s.tgt != s.cfg.tgtSentinel

/-- The exit test ZH = EXP(PH) (41_cycle.md rule R128). -/
def exitDue (s : State) : Bool := s.zh == expPattern s.ph

/-- The ±1 tracking value `n` (41_cycle.md rule R130). -/
def trackedLength (s : State) : Word16 :=
  if s.cnt < s.cl then s.cl - 1
  else if s.cl < s.cnt then s.cl + 1
  else s.cl

/-- The one-time calibration shortcut applies (41_cycle.md rules R130, R131). -/
def snapDue (s : State) : Bool :=
  !s.caldone && decide (trackedLength s < s.cl)
    && trackedLength s == s.cfg.clSentinel - s.cfg.calibTicks

/-- PRESS: the history is exactly BTN_PATTERN (42_button.md rule R150). -/
def pressDetected (c : Config) (bh : Byte) : Bool := bh == c.btnPattern

/-- The blinker's off → on condition, with LE already counted (43_blink.md rule R160). -/
def blinkOnDue (s : State) : Bool := !s.ls && decide (0 < s.bon) && decide (s.boff < s.le)

/-- The blinker's on → off condition, with LE already counted (43_blink.md rule R160). -/
def blinkOffDue (s : State) : Bool := s.ls && decide (0 < s.boff) && decide (s.bon < s.le)

end Sys2Proof.Machine
end

