-- ==== Sys2Proof/Machine/Blinker.lean ====
section
/-! DEFINITION. IndicatorBlinker: BLINK (43_blink.md). -/

namespace Sys2Proof.Machine

/-- The switch of BLINK, on a state whose LE is already counted (43_blink.md rule R160). -/
def blinkSwitch (s : State) : State :=
  if blinkOnDue s then { s with ls := true, le := 0 }
  else if blinkOffDue s then { s with ls := false, le := 0 }
  else s

/-- BLINK (43_blink.md rule R160): count, switch, drive `led`. -/
def execBlink (s : State) : Host.Outcome State Fault Refusal :=
  let s1 := blinkSwitch { s with le := satInc8 s.le }
  .next (emit (.led s1.ls) (drivePin .led s1.ls s1))

end Sys2Proof.Machine
end

