-- ==== Sys2Proof/Machine/Button.lean ====
section
/-! DEFINITION. ButtonDebouncer: BTN.POLL (42_button.md). -/

namespace Sys2Proof.Machine

/-- BTN.POLL (42_button.md rule R150). -/
def execBtnPoll (s : State) : Host.Outcome State Fault Refusal :=
  let s1 := { afterSample .btnIn s with bh := shiftIn s.bh (pinLevel .btnIn s) }
  .next { s1 with press := pressDetected s1.cfg s1.bh }

end Sys2Proof.Machine
end

