-- ==== Sys2Proof/Machine/Cycle.lean ====
section
/-! DEFINITION. ZeroCrossTimer: CYC.BEGIN, CYC.ITER, CYC.END (41_cycle.md). -/

namespace Sys2Proof.Machine

/-- The compensating delay (41_cycle.md rule R123): an event and a wait. -/
def compensate (s : State) : State := wait s.cfg.compDelayUs (emit (.compDelay s.sc) s)

/-- CYC.BEGIN (41_cycle.md rule R123). -/
def execCycBegin (s : State) : Host.Outcome State Fault Refusal :=
  let s1 := if s.ph = s.cfg.compPhase then compensate s else s
  .next { s1 with cnt := 0, fired := false, zdone := false }

/-- The fire pulse (41_cycle.md rules R124 (1), R126): the gate driven low, held, driven high; FIRED
set; FIRE_COMP added to CNT. -/
def firePulse (s : State) : State :=
  let s1 := wait s.cfg.pulseUs (emit (.fire s.sc s.cnt) (drivePin .triacN false s))
  let s2 := emit .pulseEnd (drivePin .triacN true s1)
  { s2 with fired := true, cnt := s2.cnt + s2.cfg.fireComp }

/-- One sample of `zc_in` shifted into ZH (41_cycle.md rule R125). -/
def sampleZeroCross (s : State) : State :=
  { afterSample .zcIn s with zh := shiftIn s.zh (pinLevel .zcIn s) }

/-- CYC.ITER (41_cycle.md rule R124): fire check, sample and shift, count, exit test. -/
def execCycIter (s : State) : Host.Outcome State Fault Refusal :=
  let s1 := if fireDue s then firePulse s else s
  let s2 := sampleZeroCross s1
  let s3 := { s2 with cnt := s2.cnt + 1 }
  .next { s3 with zdone := s3.zdone || exitDue s3 }

/-- CYC.END (41_cycle.md rules R130 to R132). -/
def execCycEnd (s : State) : Host.Outcome State Fault Refusal :=
  let s1 := if snapDue s then { s with cl := s.cnt, caldone := true } else { s with cl := trackedLength s }
  let s2 := emit (.tick s1.sc) { s1 with ph := !s1.ph }
  .next { s2 with sc := s2.sc + 1 }

end Sys2Proof.Machine
end

