-- ==== Sys2Proof/Machine/Mapper.lean ====
section
/-! DEFINITION. FixedPointMultiplier and BrightnessCurve, and the micro-operation CURVE (40_mapper.md). -/

namespace Sys2Proof.Machine

/-- The multiplier's 16-bit accumulator, and how many additions it has made (40_mapper.md rule R101 (e)). -/
structure MulAcc where
  r : Word16
  adds : Nat
  deriving DecidableEq, Repr

/-- One conditional addition of rule R100: `if a[k] == 1: r <- r + bb`. -/
def mulAdd (a bb : Word16) (k : Nat) (acc : MulAcc) : MulAcc :=
  if a.getLsbD k then ⟨acc.r + bb, acc.adds + 1⟩ else acc

/-- The accumulator after the first `k` steps of rule R100's loop, each an addition and a shift. -/
def mulLoop (a bb : Word16) : Nat → MulAcc
  | 0 => ⟨0, 0⟩
  | k + 1 => ⟨(mulAdd a bb k (mulLoop a bb k)).r >>> 1, (mulAdd a bb k (mulLoop a bb k)).adds⟩

/-- The whole computation of rule R100: 15 steps for a[0] to a[14], then a[15] without a shift. -/
def mulProduct (a b : Word16) : MulAcc :=
  mulAdd a (b >>> 1) 15 (mulLoop a (b >>> 1) 15)

/-- `mulhi16(a, b)` (40_mapper.md rule R100). -/
def mulhi16 (a b : Word16) : Word16 := (mulProduct a b).r

/-- The number of additions `mulhi16(a, b)` makes (40_mapper.md rule R101 (e)). -/
def mulAdds (a b : Word16) : Nat := (mulProduct a b).adds

/-- `popcount(v)` (00_scope.md rule R14). -/
def popcount (v : Word16) : Nat := (List.range 16).countP (fun k => v.getLsbD k)

/-- `true_mulhi(a, b) = floor(a*b / 65536)`, exactly (00_scope.md rule R14). -/
def trueMulhi (a b : Word16) : Nat := a.toNat * b.toNat / 65536

/-- The inverted blend t4 of steps 1 to 4 (40_mapper.md rule R102). -/
def curveBlend (l : Word16) : Word16 :=
  let t1 := mulhi16 l l
  let t2 := mulhi16 t1 t1
  let t3 := (t2 >>> 1) + (l >>> 1)
  0xFFFF - t3

/-- The mapper's step 5 operand `a = CL − MARGIN`, modulo 2^16 (40_mapper.md rules R102, R107). -/
def rescaleOperand (c : Config) (cl : Word16) : Word16 := cl - c.margin

/-- `curve(l, cl)`: steps 1 to 5 always, then the level-0 override (40_mapper.md rules R102, R104). -/
def curve (c : Config) (l cl : Word16) : Word16 :=
  let t5 := mulhi16 (rescaleOperand c cl) (curveBlend l)
  if l = 0 then c.tgtSentinel else t5

/-- CURVE (40_mapper.md rule R103): TGT <- curve(SL, CL). -/
def execCurve (s : State) : Host.Outcome State Fault Refusal :=
  .next { s with tgt := curve s.cfg s.sl s.cl }

end Sys2Proof.Machine
end

