-- ==== Sys2Proof/Machine/Sequencer.lean ====
section
/-! DEFINITION. ModeSequencer and the host load: SEQ.STEP, SEQ.NEXT, HOST.LOAD (44_sequencer.md). -/

namespace Sys2Proof.Machine

/-- The end of SEQ.STEP (44_sequencer.md rules R171, R176, R177): SL from the LEVEL just written, and
the mode's blink pattern. -/
def loadStep (p : BlinkPattern) (s : State) : State :=
  { s with sl := scaledLevel s.level, bon := p.on, boff := p.off }

/-- SEQ.STEP (44_sequencer.md rule R171). -/
def execSeqStep (s : State) : Host.Outcome State Fault Refusal :=
  match s.mode with
  | .rampUp =>
    .next (loadStep s.cfg.blink.rampUp { s with level := levelUp s.level s.cfg.stepUp s.cfg.levelMax })
  | .steady =>
    .next (loadStep s.cfg.blink.steady { s with level := s.cfg.levelMax, mtimer := satInc32 s.mtimer })
  | .rampDown =>
    .next (loadStep s.cfg.blink.rampDown
      { s with level := levelDown s.level s.cfg.stepDown, mtimer := satInc32 s.mtimer })
  | .offRamp => .next (loadStep s.cfg.blink.offRamp { s with level := levelDown s.level s.cfg.stepOff })
  | .off => .next (loadStep s.cfg.blink.off { s with level := 0 })
  | .onRamp =>
    .next (loadStep s.cfg.blink.onRamp { s with level := levelUp s.level s.cfg.stepOn s.cfg.levelMax })
  | .on => .next (loadStep s.cfg.blink.on { s with level := s.cfg.levelMax })
  | .reserved => .refused .reservedMode

/-- SEQ.NEXT (44_sequencer.md rules R180 to R183): the press is tested first. -/
def execSeqNext (s : State) : Host.Outcome State Fault Refusal :=
  match s.mode with
  | .rampUp =>
    if s.press then .next { s with mode := .offRamp }
    else if s.level = s.cfg.levelMax then .next { s with mode := .steady, mtimer := 0 }
    else .next s
  | .steady =>
    if s.press then .next { s with mode := .offRamp }
    else if s.cfg.steadySemicycles ≤ s.mtimer then .next { s with mode := .rampDown, mtimer := 0 }
    else .next s
  | .rampDown =>
    if s.cfg.rampDownSemicycles ≤ s.mtimer then .next { s with mode := .offRamp } else .next s
  | .offRamp =>
    if s.press then .next { s with mode := .onRamp }
    else if s.level = 0 then .next { s with mode := .off }
    else .next s
  | .off => if s.press then .next { s with mode := .onRamp } else .next s
  | .onRamp =>
    if s.press then .next { s with mode := .offRamp }
    else if s.level = s.cfg.levelMax then .next { s with mode := .on }
    else .next s
  | .on => if s.press then .next { s with mode := .offRamp } else .next s
  | .reserved => .refused .reservedMode

/-- HOST.LOAD (44_sequencer.md rule R186): the ports are read once. -/
def execHostLoad (s : State) : Host.Outcome State Fault Refusal :=
  let p := hostPorts s
  .next { afterHostRead s with sl := p.level, bon := p.blinkOn, boff := p.blinkOff }

end Sys2Proof.Machine
end

