-- ==== Sys2Proof/Syntax.lean ====
section
/-! DEFINITION. The micro-operations (30_encoding.md rule R82), their mnemonics, and the
pseudo-operations of a trace program (rules R89, R90). -/

namespace Sys2Proof

/-- The nine micro-operations. None has an operand field (30_encoding.md rule R81). -/
inductive Instr where
  /-- CURVE, 0x10: the brightness mapper (40_mapper.md rule R103). -/
  | curve
  /-- CYC.BEGIN, 0x20: entry of the timing loop (41_cycle.md rule R123). -/
  | cycBegin
  /-- CYC.ITER, 0x30: one iteration of the timing loop (41_cycle.md rule R124). -/
  | cycIter
  /-- CYC.END, 0x40: tracking, calibration, phase toggle (41_cycle.md rule R130). -/
  | cycEnd
  /-- BTN.POLL, 0x50: the button debouncer (42_button.md rule R150). -/
  | btnPoll
  /-- BLINK, 0x60: the indicator blinker (43_blink.md rule R160). -/
  | blink
  /-- SEQ.STEP, 0x70: the mode sequencer's level step (44_sequencer.md rule R171). -/
  | seqStep
  /-- SEQ.NEXT, 0x80: the mode sequencer's transition (44_sequencer.md rule R180). -/
  | seqNext
  /-- HOST.LOAD, 0x90: the host's level and blink values (44_sequencer.md rule R186). -/
  | hostLoad
  deriving DecidableEq, Repr

/-- Every micro-operation, in the order of rule R82's table. -/
def Instr.all : List Instr :=
  [.curve, .cycBegin, .cycIter, .cycEnd, .btnPoll, .blink, .seqStep, .seqNext, .hostLoad]

/-- The mnemonic, in upper case exactly as in 30_encoding.md rule R82. -/
def Instr.mnemonic : Instr → String
  | .curve => "CURVE"
  | .cycBegin => "CYC.BEGIN"
  | .cycIter => "CYC.ITER"
  | .cycEnd => "CYC.END"
  | .btnPoll => "BTN.POLL"
  | .blink => "BLINK"
  | .seqStep => "SEQ.STEP"
  | .seqNext => "SEQ.NEXT"
  | .hostLoad => "HOST.LOAD"

/-- One line of a trace program (30_encoding.md rules R89, R90). The pseudo-operations have no op
word of their own. -/
inductive TraceLine where
  /-- one micro-operation -/
  | op (i : Instr)
  /-- `CYC.ITER xN` -/
  | iterTimes (n : Nat)
  /-- `CYC.RUN` -/
  | cycRun
  /-- `SEMICYCLE` -/
  | semicycle
  deriving DecidableEq, Repr

end Sys2Proof
end

