-- ==== Sys2Proof/Machine/Dispatch.lean ====
section
/-! DEFINITION. The meaning of each micro-operation (30_encoding.md rule R82), one arm for each. -/

namespace Sys2Proof.Machine

def exec (i : Instr) (s : State) : Host.Outcome State Fault Refusal :=
  match i with
  | .curve => Sys2Proof.Machine.execCurve s
  | .cycBegin => Sys2Proof.Machine.execCycBegin s
  | .cycIter => Sys2Proof.Machine.execCycIter s
  | .cycEnd => Sys2Proof.Machine.execCycEnd s
  | .btnPoll => Sys2Proof.Machine.execBtnPoll s
  | .blink => Sys2Proof.Machine.execBlink s
  | .seqStep => Sys2Proof.Machine.execSeqStep s
  | .seqNext => Sys2Proof.Machine.execSeqNext s
  | .hostLoad => Sys2Proof.Machine.execHostLoad s

end Sys2Proof.Machine
end

