-- ==== Sys2Proof/WellFormed.lean ====
section
/-! DEFINITION. Well-formedness. A micro-operation has no operand, so every term of Instr is well
formed (30_encoding.md rule R81). What can be ill formed is an op word: its SUB field must be 0000
(rule R80) and its MAJOR field must be one of the nine defined (rule R83). -/

namespace Sys2Proof

/-- Nothing about a micro-operation can be ill formed: it has no operand field (R81). -/
def Instr.wellFormed : Instr → Bool
  | .curve | .cycBegin | .cycIter | .cycEnd | .btnPoll | .blink | .seqStep | .seqNext | .hostLoad => true

/-- Bits [7:4], MAJOR (30_encoding.md rule R80). -/
def OpWord.major (w : OpWord) : BitVec 4 := w.extractLsb' 4 4

/-- Bits [3:0], SUB (30_encoding.md rule R80). -/
def OpWord.sub (w : OpWord) : BitVec 4 := w.extractLsb' 0 4

/-- SUB is 0000 in every defined encoding (R80). -/
def OpWord.subIsZero (w : OpWord) : Bool := OpWord.sub w == 0

/-- MAJOR is 0x1 to 0x9; 0x0 and 0xA to 0xF are reserved (R83). -/
def OpWord.majorIsDefined (w : OpWord) : Bool := 1 ≤ OpWord.major w && OpWord.major w ≤ 9

/-- A word that the table of rule R82 defines. -/
def OpWord.wellFormed (w : OpWord) : Bool := OpWord.subIsZero w && OpWord.majorIsDefined w

end Sys2Proof
end

