-- ==== Sys2Proof/Decode.lean ====
section
/-! DEFINITION. The decoder (30_encoding.md rules R83 to R85), the encoder (rule R82), and both for
the op words of a trace program (rule R89). -/

namespace Sys2Proof

/-- Why a word or a list of words is not decoded. -/
inductive DecodeError where
  /-- a reserved op word (30_encoding.md rule R83) -/
  | reservedOpWord
  /-- there is no op word left to read -/
  | noOpWord
  deriving DecidableEq, Repr

/-- The decoding rule of 30_encoding.md rule R85: SUB first, then MAJOR. -/
def decodeWord (w : OpWord) : Except DecodeError Instr :=
  if OpWord.sub w ≠ 0 then .error .reservedOpWord
  else match (OpWord.major w).toNat with
    | 0x1 => .ok .curve
    | 0x2 => .ok .cycBegin
    | 0x3 => .ok .cycIter
    | 0x4 => .ok .cycEnd
    | 0x5 => .ok .btnPoll
    | 0x6 => .ok .blink
    | 0x7 => .ok .seqStep
    | 0x8 => .ok .seqNext
    | 0x9 => .ok .hostLoad
    | _ => .error .reservedOpWord

/-- Reads exactly one op word (30_encoding.md rule R84) and returns the rest. -/
def decode : List OpWord → Except DecodeError (Instr × List OpWord)
  | [] => .error .noOpWord
  | w :: rest =>
    match decodeWord w with
    | .ok i => .ok (i, rest)
    | .error e => .error e

/-- Decodes a whole trace program, word by word (30_encoding.md rule R89). -/
def decodeProgram : List OpWord → Except DecodeError (List Instr)
  | [] => .ok []
  | w :: rest =>
    match decodeWord w with
    | .error e => .error e
    | .ok i =>
      match decodeProgram rest with
      | .error e => .error e
      | .ok is => .ok (i :: is)

/-- The op word of a micro-operation, from the table of 30_encoding.md rule R82. -/
def encode : Instr → OpWord
  | .curve => 0x10
  | .cycBegin => 0x20
  | .cycIter => 0x30
  | .cycEnd => 0x40
  | .btnPoll => 0x50
  | .blink => 0x60
  | .seqStep => 0x70
  | .seqNext => 0x80
  | .hostLoad => 0x90

/-- The op words of a trace program, in order (30_encoding.md rule R89). -/
def encodeProgram (is : List Instr) : List OpWord := is.map encode

/-- The one op word that the table's numbering of bits gives: bits 7..0, and 0 for every bit above `nbits`. -/
def tableWord (nbits w : Nat) : OpWord := BitVec.ofNat 8 (w % 2 ^ nbits)

/-- What the decoder reads from an instruction whose bits are `w` (opcode_table.json's numbering). -/
def decodeTableWord (nbits w : Nat) : Option Instr :=
  match decode [tableWord nbits w] with
  | .ok (i, _) => some i
  | .error _ => none

/-- The micro-operation a trace program's line names (30_encoding.md rule R89), if the text before
any comment is a mnemonic of rule R82. -/
def Instr.ofMnemonic? (m : String) : Option Instr := Instr.all.find? (fun i => i.mnemonic == m)

end Sys2Proof
end

