-- ==== Sys2Proof/Machine/Schedule.lean ====
section
/-! DEFINITION. The micro-sequencer's fixed schedules and the update of uPC (30_encoding.md rules R86,
R87), and how a harness's word is handed to the block (rule R89). -/

namespace Sys2Proof.Machine

/-- The word of the schedule at step uPC, from the table of 30_encoding.md rule R86; none where the
table says unused. -/
def scheduleWord (sch : Schedule) (upc : StepIndex) : Option OpWord :=
  match upc.toNat with
  | 0 => match sch with
    | .full => some 0x70
    | .engineOnly => some 0x90
  | 1 => some 0x10
  | 2 => some 0x20
  | 3 => some 0x30
  | 4 => some 0x40
  | 5 => some 0x60
  | 6 => some 0x50
  | _ => match sch with
    | .full => some 0x80
    | .engineOnly => none

/-- The word the micro-sequencer is about to run (10_state.md rule R37). -/
def fetchWord (s : State) : Option OpWord := scheduleWord s.cfg.schedule s.upc

/-- `next_upc` (30_encoding.md rule R87). -/
def nextUpc (sch : Schedule) (zdone : Bool) (upc : StepIndex) : StepIndex :=
  if upc = 3 then (if zdone then 4 else 3)
  else if upc = 6 ∧ sch = .engineOnly then 0
  else if upc = 7 then 0
  else upc + 1

/-- The uPC update, applied after the micro-operation completes (30_encoding.md rule R87). -/
def advanceUpc (s : State) : State := { s with upc := nextUpc s.cfg.schedule s.zdone s.upc }

/-- The uPC update of a step that answers a next state. -/
def advanceNext : Host.Outcome State Fault Refusal → Host.Outcome State Fault Refusal
  | .next s => .next (advanceUpc s)
  | .fault f => .fault f
  | .refused r => .refused r

/-- A harness hands the block the one word `w` (30_encoding.md rules R83, R89; log 5): the trace
program is that word, `rst` is 0 at this step, and no earlier refusal is marked. -/
def handWord (w : OpWord) (s : State) : State :=
  { s with driver := .harness [w], rstIn := false :: s.rstIn, refusalMark := none }

end Sys2Proof.Machine
end

