-- ==== Sys2Proof/Machine/Straps.lean ====
section
/-! DEFINITION. The range check of the configuration (00_scope.md rule R9; 10_state.md rule R38;
60_exceptions.md rule R204) and what must hold before a micro-operation runs. -/

namespace Sys2Proof.Machine

/-- A ramp step lies in 1..LEVEL_MAX (00_scope.md rule R9). -/
def stepInRange (step levelMax : Word32) : Bool := decide (1 ≤ step) && decide (step ≤ levelMax)

/-- A blink parameter lies in 0..254 (00_scope.md rule R9). -/
def patternInRange (p : BlinkPattern) : Bool := decide (p.on ≤ 254) && decide (p.off ≤ 254)

/-- Every parameter lies in its range (00_scope.md rule R9), in either schedule (log 9). The ranges
that are whole widths hold by the fields' types. -/
def configInRange (c : Config) : Bool :=
  decide (1 ≤ c.calibTicks)
    && stepInRange c.stepUp c.levelMax && stepInRange c.stepDown c.levelMax
    && stepInRange c.stepOff c.levelMax && stepInRange c.stepOn c.levelMax
    && decide (1 ≤ c.steadySemicycles) && decide (1 ≤ c.rampDownSemicycles)
    && c.blink.patterns.all patternInRange

/-- The numbers fit the widths of their parameters (00_scope.md rule R9; 60_exceptions.md rule R204:
"MARGIN, FIRE_COMP or CALIB_TICKS outside 16 bits"). -/
def strapsFit (v : StrapNumbers) : Bool :=
  [v.margin, v.fireComp, v.clSentinel, v.tgtSentinel, v.calibTicks].all (fun n => decide (n < 2 ^ 16))
    && decide (v.compPhase < 2) && decide (v.btnPattern < 2 ^ 8)
    && [v.levelMax, v.stepUp, v.stepDown, v.stepOff, v.stepOn, v.steadySemicycles,
        v.rampDownSemicycles].all (fun n => decide (n < 2 ^ 32))
    && v.blink.all (fun p => decide (p.on < 2 ^ 8) && decide (p.off < 2 ^ 8))

/-- A pattern whose numbers fit. -/
def patternOf (p : BlinkNumbers) : BlinkPattern := ⟨BitVec.ofNat 8 p.on, BitVec.ofNat 8 p.off⟩

/-- The blink table from one pattern for each of the seven modes. -/
def blinkTableOf : List BlinkNumbers → Option BlinkTable
  | [a, b, c, d, e, f, g] =>
    some ⟨patternOf a, patternOf b, patternOf c, patternOf d, patternOf e, patternOf f, patternOf g⟩
  | _ => none

/-- The configuration that strap numbers describe, if every one is in range. -/
def configOf (v : StrapNumbers) : Option Config :=
  match blinkTableOf v.blink with
  | none => none
  | some blink =>
    let c : Config := {
      margin := BitVec.ofNat 16 v.margin
      fireComp := BitVec.ofNat 16 v.fireComp
      pulseUs := v.pulseUs
      compDelayUs := v.compDelayUs
      compPhase := decide (v.compPhase = 1)
      clSentinel := BitVec.ofNat 16 v.clSentinel
      tgtSentinel := BitVec.ofNat 16 v.tgtSentinel
      calibTicks := BitVec.ofNat 16 v.calibTicks
      btnPattern := BitVec.ofNat 8 v.btnPattern
      levelMax := BitVec.ofNat 32 v.levelMax
      stepUp := BitVec.ofNat 32 v.stepUp
      stepDown := BitVec.ofNat 32 v.stepDown
      stepOff := BitVec.ofNat 32 v.stepOff
      stepOn := BitVec.ofNat 32 v.stepOn
      steadySemicycles := BitVec.ofNat 32 v.steadySemicycles
      rampDownSemicycles := BitVec.ofNat 32 v.rampDownSemicycles
      blink := blink
      schedule := v.schedule
      tIterNs := v.tIterNs }
    if strapsFit v && configInRange c then some c else none

/-- `rst` falls on straps set to the numbers `v` (70_reset_and_hazards.md rule R233): the block starts
from its reset state, or the configuration is refused before the run (60_exceptions.md rule R204). -/
def powerOn (v : StrapNumbers) : Host.Outcome State Fault Refusal :=
  match configOf v with
  | some c => .next (State.resetWith c)
  | none => .refused .configOutOfRange

/-- Why no micro-operation may run: the sticky refusal mark (60_exceptions.md rule R206), or straps
out of range (rule R204). -/
def admission (s : State) : Option Refusal :=
  match s.refusalMark with
  | some r => some r
  | none => if configInRange s.cfg then none else some .configOutOfRange

end Sys2Proof.Machine
end

