-- ==== Sys2Proof/Machine/Run.lean ====
section
/-! DEFINITION. Running op words: one word, the next word of whoever drives the block, a whole trace
program (30_encoding.md rules R86 to R90). -/

namespace Sys2Proof.Machine

/-- Decodes a word and runs it; a reserved word is refused, never run as a no-op
(60_exceptions.md rule R202). -/
def runWord (w : OpWord) (s : State) : Host.Outcome State Fault Refusal :=
  match decodeWord w with
  | .ok i => exec i s
  | .error _ => .refused .reservedOpWord

/-- Runs the next word: the schedule's, after which uPC is updated (30_encoding.md rules R86, R87), or
the harness's, which leaves uPC alone (rule R89). -/
def runNext (s : State) : Host.Outcome State Fault Refusal :=
  match s.driver with
  | .sequencer =>
    match fetchWord s with
    | some w => advanceNext (runWord w s)
    | none => .refused .unusedScheduleStep
  | .harness [] => .refused .traceProgramEnded
  | .harness (w :: rest) => runWord w { s with driver := .harness rest }

/-- A test harness runs a trace program (30_encoding.md rule R89): each listed word once, in order. A
refusal sets the sticky mark, and no later word is run (60_exceptions.md rules R202, R206). A trace
program lists no `rst`: this run takes `rst` as 0 at every boundary and neither reads nor uses up
`rstIn`, where step, a harness driving, takes `rst` first. DESIGN CHOICE (log 21). -/
def runTrace : List OpWord → State → State
  | [], s => s
  | w :: rest, s =>
    match admission s with
    | some r => markRefused r s
    | none =>
      match runWord w s with
      | .next t => runTrace rest t
      | .refused r => markRefused r s
      | .fault _ => s

/-- How many CYC.ITERs the loop takes from `s` until ZDONE = 1, if at most `fuel` (30_encoding.md rule
R90; 60_exceptions.md rule R205: a model "may bound a simulation by fuel"). -/
def loopLength : Nat → State → Option Nat
  | 0, _ => none
  | fuel + 1, s =>
    match exec .cycIter s with
    | .next t => if t.zdone then some 1 else (loopLength fuel t).map (· + 1)
    | .refused _ => none
    | .fault _ => none

/-- The micro-operations `entry`, then CYC.ITER repeated until ZDONE = 1, then `exit`, from the state
`s`; none if `fuel` CYC.ITERs do not end the loop. Where a word of `entry` is refused no later word
is run (60_exceptions.md rule R202), so there is no loop, and the expansion stops with `entry`. -/
def aroundLoop (fuel : Nat) (entry exit : List Instr) (s : State) : Option (List Instr) :=
  let u := runTrace (encodeProgram entry) s
  if u.refusalMark.isSome then some entry
  else (loopLength fuel u).map (fun k => entry ++ List.replicate k .cycIter ++ exit)

/-- The expansion of a trace program's line at the state `s` (30_encoding.md rule R90): the number of
CYC.ITERs of CYC.RUN and of SEMICYCLE is what the loop takes from there, and SEMICYCLE is a pass of
the active schedule. None if the loop does not end within `fuel` CYC.ITERs. -/
def expandLine (fuel : Nat) (line : TraceLine) (s : State) : Option (List Instr) :=
  match line with
  | .op i => some [i]
  | .iterTimes n => some (List.replicate n .cycIter)
  | .cycRun => aroundLoop fuel [.cycBegin] [.cycEnd] s
  | .semicycle =>
    match s.cfg.schedule with
    | .full => aroundLoop fuel [.seqStep, .curve, .cycBegin] [.cycEnd, .blink, .btnPoll, .seqNext] s
    | .engineOnly => aroundLoop fuel [.hostLoad, .curve, .cycBegin] [.cycEnd, .blink, .btnPoll] s

/-- The harness runs one line: the words of its expansion (30_encoding.md rules R89, R90). -/
def runLine (fuel : Nat) (line : TraceLine) (s : State) : Option State :=
  (expandLine fuel line s).map (fun is => runTrace (encodeProgram is) s)

/-- The harness runs a trace program line by line, each expanded at the state it is reached in. -/
def runLines (fuel : Nat) : List TraceLine → State → Option State
  | [], s => some s
  | line :: rest, s => (runLine fuel line s).bind (runLines fuel rest)

end Sys2Proof.Machine
end

