-- ==== Sys2Proof/Machine/Step.lean ====
section
/-! DEFINITION. One step of the block: reset before everything (60_exceptions.md rule R209), then the
refusals that let nothing run, then one micro-operation. -/

namespace Sys2Proof.Machine

/-- One step. While `rst` = 1 no micro-operation runs (70_reset_and_hazards.md rule R230). -/
def step (s : State) : Host.Outcome State Fault Refusal :=
  if rstLevel s then .next (holdReset s)
  else match admission s with
    | some r => .refused r
    | none => runNext (afterRst s)

/-- `s` with the instruction whose bits are `w` as the next one that step runs: a harness hands it to
the block, because the schedule itself cannot be written (20_memory.md rule R71; 30_encoding.md rule
R89; log 5). -/
def State.withFetchWord (s : State) (nbits w : Nat) : State := handWord (tableWord nbits w) s

end Sys2Proof.Machine
end

