-- ==== Sys2Proof/Safety.lean ====
section
/-! DEFINITION. What the claims are stated in terms of: the invariant of the block, runs of several
micro-operations, the samples to come and the environment assumption EA1. -/

namespace Sys2Proof.Machine

/-- What holds at every step boundary, whoever drives the block: the gate is inactive (10_state.md
rule R41), LEVEL is in [0, LEVEL_MAX] (R35), MODE is not the reserved code (R34). -/
structure State.Sound (s : State) : Prop where
  gateInactive : s.triacN = true
  levelInRange : s.level ≤ s.cfg.levelMax
  modeDefined : s.mode ≠ .reserved

/-- What holds of the zero-cross history at each step of the schedule (41_cycle.md rules R128, R135):
between two loops ZH is the last semicycle's pattern, in the loop it is not yet EXP(PH), and at
CYC.END it is EXP(PH). In ENGINE_ONLY uPC is never 7 (30_encoding.md rule R87). -/
structure State.OnSchedule (s : State) : Prop where
  stepUsed : s.cfg.schedule = .engineOnly → s.upc ≠ 7
  historyOfLast : s.upc ≠ 3 → s.upc ≠ 4 → s.zh = expPattern (!s.ph)
  loopOpen : s.upc = 3 → s.zdone = false ∧ s.zh ≠ expPattern s.ph
  loopClosed : s.upc = 4 → s.zdone = true ∧ s.zh = expPattern s.ph

/-- The invariant that every step keeps. Its schedule part speaks of the micro-sequencer only: a
harness runs words in any order (30_encoding.md rule R89). -/
structure State.Inv (s : State) : Prop where
  sound : s.Sound
  onSchedule : s.driver = .sequencer → s.OnSchedule

/-- `n` steps, ending at the first stop. -/
def runSteps : Nat → State → Host.Outcome State Fault Refusal
  | 0, s => .next s
  | n + 1, s =>
    match step s with
    | .next t => runSteps n t
    | .fault f => .fault f
    | .refused r => .refused r

/-- The listed micro-operations in order, ending at the first stop: what a harness that ignores uPC
makes of a trace program (30_encoding.md rule R89). -/
def runInstrs : List Instr → State → Host.Outcome State Fault Refusal
  | [], s => .next s
  | i :: rest, s =>
    match exec i s with
    | .next t => runInstrs rest t
    | .fault f => .fault f
    | .refused r => .refused r

/-- One CYC.END for each measured count of the list, in order. -/
def runEnds : List Word16 → State → Host.Outcome State Fault Refusal
  | [], s => .next s
  | c :: rest, s =>
    match exec .cycEnd { s with cnt := c } with
    | .next t => runEnds rest t
    | .fault f => .fault f
    | .refused r => .refused r

/-- The `k`-th sample of `zc_in` still to come, counted from 0 (20_memory.md rule R68; log 2). -/
def zcSample (s : State) (k : Nat) : Bool := s.zcIn.getD k (Config.freeZcIn (s.zcTaken + k))

/-- The eight samples from the `k`-th to come are all the level that ends the loop: EA1 for this
semicycle says that there is such a `k` (60_exceptions.md rule R207). -/
def exitSuppliedAt (s : State) (k : Nat) : Prop := ∀ j < 8, zcSample s (k + j) = exitLevel s.ph

/-- `rst` is 0 at every step boundary to come (log 3). -/
def rstStaysLow (s : State) : Prop := ∀ b ∈ s.rstIn, b = false

/-- The micro-sequencer drives the block and nothing forbids it to run. -/
structure State.Running (s : State) : Prop where
  rstLow : rstStaysLow s
  admitted : admission s = none
  sequenced : s.driver = .sequencer

/-- How many fire pulses a trace records. -/
def fireCount (t : List Event) : Nat :=
  t.countP (fun e => match e with
    | .fire _ _ => true
    | .pulseEnd => false
    | .compDelay _ => false
    | .led _ => false
    | .tick _ => false)

end Sys2Proof.Machine
end

