-- ==== Sys2Proof/Certificates/Slice0/Obligations.lean ====
section
/-! DEFINITION. The statements for the provers. Each docstring names the rule of spec/ it formalises.
A sample of a pin, or a reading of the host ports, is the environment's draw: `pinLevel` and
`hostPorts` (listed in State or free, log 2); no statement rests on a value of it. Every statement
holds under every configuration unless it names the straps it needs. -/

open Sys2Proof Sys2Proof.Machine

/-! ### Encoding -/

/-- 30_encoding.md rule R82: the nine op words, written out, decode to the micro-operations the table
gives them. -/
def Obligations.TableWordsDecode : Prop :=
  decodeWord 0b00010000 = .ok .curve ∧ decodeWord 0b00100000 = .ok .cycBegin ∧
  decodeWord 0b00110000 = .ok .cycIter ∧ decodeWord 0b01000000 = .ok .cycEnd ∧
  decodeWord 0b01010000 = .ok .btnPoll ∧ decodeWord 0b01100000 = .ok .blink ∧
  decodeWord 0b01110000 = .ok .seqStep ∧ decodeWord 0b10000000 = .ok .seqNext ∧
  decodeWord 0b10010000 = .ok .hostLoad

/-- 30_encoding.md rules R84, R85: decoding is total, a word decodes to a micro-operation exactly when
it is that one's word, and every other word is ReservedOpWord, that is SUB ≠ 0, MAJOR 0x0, or MAJOR
0xA to 0xF. -/
def Obligations.DecodeIsTheTable : Prop :=
  (∀ (w : OpWord) (i : Instr), decodeWord w = .ok i ↔ w = encode i) ∧
  (∀ w : OpWord, decodeWord w = .error .reservedOpWord ↔
    (w &&& 0x0F ≠ 0 ∨ w >>> 4 = 0 ∨ 0x0A ≤ w >>> 4))

/-- 30_encoding.md rules R82, R85, R89: a trace program of any length decodes back from its words, and
words that decode are exactly the words of what they decode to. -/
def Obligations.ProgramWordsRoundTrip : Prop :=
  (∀ is : List Instr, decodeProgram (encodeProgram is) = .ok is) ∧
  (∀ (ws : List OpWord) (is : List Instr), decodeProgram ws = .ok is → encodeProgram is = ws)

/-! ### Steps and control flow -/

/-- 30_encoding.md rules R86, R87: driven by the micro-sequencer, a step decodes the schedule's word at
uPC, runs that micro-operation, and then updates uPC from the state the micro-operation left. -/
def Obligations.StepRunsScheduledWord : Prop :=
  ∀ (s : State) (w : OpWord) (i : Instr),
    rstLevel s = false → admission s = none → s.driver = .sequencer →
    fetchWord s = some w → decodeWord w = .ok i →
    (∀ t, exec i { s with rstIn := s.rstIn.tail } = .next t →
      step s = .next { t with upc := nextUpc t.cfg.schedule t.zdone t.upc }) ∧
    (∀ r, exec i { s with rstIn := s.rstIn.tail } = .refused r → step s = .refused r)

/-- 30_encoding.md rule R89: driven by a harness, a step runs the next word of the trace program once
and leaves uPC to the harness. -/
def Obligations.StepRunsHarnessWord : Prop :=
  ∀ (s : State) (w : OpWord) (rest : List OpWord) (i : Instr),
    rstLevel s = false → admission s = none → s.driver = .harness (w :: rest) →
    decodeWord w = .ok i →
    step s = exec i { s with rstIn := s.rstIn.tail, driver := .harness rest } ∧
    (∀ t, step s = .next t → t.upc = s.upc)

/-- 30_encoding.md rule R89 (log 5): a word handed to the block with withFetchWord is the one that the
next step runs, whatever the state, if the straps are in range. -/
def Obligations.HandedWordRuns : Prop :=
  ∀ (s : State) (w : Nat) (i : Instr),
    configInRange s.cfg = true → decodeTableWord 8 w = some i →
    step (s.withFetchWord 8 w) = exec i { s with driver := .harness [], refusalMark := none }

/-- 30_encoding.md rule R86: the two schedules, step by step. -/
def Obligations.ScheduleIsTheTable : Prop :=
  (List.range 8).map (fun k => (scheduleWord .full (BitVec.ofNat 3 k)).map decodeWord) =
    [some (.ok .seqStep), some (.ok .curve), some (.ok .cycBegin), some (.ok .cycIter),
     some (.ok .cycEnd), some (.ok .blink), some (.ok .btnPoll), some (.ok .seqNext)] ∧
  (List.range 8).map (fun k => (scheduleWord .engineOnly (BitVec.ofNat 3 k)).map decodeWord) =
    [some (.ok .hostLoad), some (.ok .curve), some (.ok .cycBegin), some (.ok .cycIter),
     some (.ok .cycEnd), some (.ok .blink), some (.ok .btnPoll), none]

/-- 30_encoding.md rule R87: uPC holds at step 3 until ZDONE, wraps after the schedule's last step, and
else counts up; in ENGINE_ONLY it never becomes 7. -/
def Obligations.NextStepIndex : Prop :=
  (∀ sch, nextUpc sch false 3 = 3 ∧ nextUpc sch true 3 = 4) ∧
  (∀ z, nextUpc .full z 6 = 7 ∧ nextUpc .engineOnly z 6 = 0) ∧
  (∀ sch z, nextUpc sch z 7 = 0) ∧
  (∀ sch z (u : StepIndex), u ≠ 3 → u ≠ 6 → u ≠ 7 → nextUpc sch z u = u + 1) ∧
  (∀ z (u : StepIndex), u ≠ 7 → nextUpc .engineOnly z u ≠ 7)

/-- 30_encoding.md rule R90: a line of one micro-operation is that one, `CYC.ITER xN` is N CYC.ITERs, and
CYC.RUN is CYC.BEGIN, then k CYC.ITERs, then CYC.END, where k is the first number of CYC.ITERs after
CYC.BEGIN that makes ZDONE = 1; with too little fuel for it there is no expansion. -/
def Obligations.LinesExpandOnTheState : Prop :=
  ∀ (s : State) (fuel : Nat),
    (∀ i, expandLine fuel (.op i) s = some [i]) ∧
    (∀ n, expandLine fuel (.iterTimes n) s = some (List.replicate n .cycIter)) ∧
    (admission s = none → ∀ is, expandLine fuel .cycRun s = some is ↔
      ∃ k ≤ fuel, is = Instr.cycBegin :: (List.replicate k Instr.cycIter ++ [Instr.cycEnd]) ∧
        (∃ t, runInstrs (.cycBegin :: List.replicate k .cycIter) s = .next t ∧ t.zdone = true) ∧
        (∀ j < k, ∃ t, runInstrs (.cycBegin :: List.replicate j .cycIter) s = .next t ∧
          t.zdone = false))

/-- 30_encoding.md rules R86, R90; 70_reset_and_hazards.md rule R242: one pass of the FULL schedule is
exactly the SEMICYCLE expansion at that state, each other micro-operation once and CYC.ITER as often
as the loop takes, and ends at step 0. -/
def Obligations.FullPassIsSemicycle : Prop :=
  ∀ (s t : State) (fuel : Nat) (is : List Instr),
    s.rstIn = [] → admission s = none → s.driver = .sequencer →
    s.cfg.schedule = .full → s.upc = 0 →
    expandLine fuel .semicycle s = some is → runInstrs is s = .next t →
    runSteps is.length s = .next t ∧ t.upc = 0 ∧
    ∃ k, 1 ≤ k ∧ is = Instr.seqStep :: Instr.curve :: Instr.cycBegin ::
      (List.replicate k Instr.cycIter ++ [Instr.cycEnd, Instr.blink, Instr.btnPoll, Instr.seqNext])

/-- The same for ENGINE_ONLY (30_encoding.md rules R86, R90). -/
def Obligations.EnginePassIsSemicycle : Prop :=
  ∀ (s t : State) (fuel : Nat) (is : List Instr),
    s.rstIn = [] → admission s = none → s.driver = .sequencer →
    s.cfg.schedule = .engineOnly → s.upc = 0 →
    expandLine fuel .semicycle s = some is → runInstrs is s = .next t →
    runSteps is.length s = .next t ∧ t.upc = 0 ∧
    ∃ k, 1 ≤ k ∧ is = Instr.hostLoad :: Instr.curve :: Instr.cycBegin ::
      (List.replicate k Instr.cycIter ++ [Instr.cycEnd, Instr.blink, Instr.btnPoll])

/-- 30_encoding.md rule R89; 60_exceptions.md rules R202, R206: the harness's run of a whole trace
program is the machine's steps over it: the same state at its end, or the same refusal. With `rst`
low throughout: that runTrace does not read `rst` is the model's choice (log 21). -/
def Obligations.TraceRunIsSteps : Prop :=
  ∀ (ws : List OpWord) (s : State),
    s.rstIn = [] → admission s = none → s.driver = .harness [] →
    ((runTrace ws s).refusalMark = none →
      runSteps ws.length { s with driver := .harness ws } = .next (runTrace ws s)) ∧
    (∀ r, (runTrace ws s).refusalMark = some r →
      runSteps ws.length { s with driver := .harness ws } = .refused r)

/-! ### Refusals -/

/-- 30_encoding.md rule R83; 60_exceptions.md rule R202: a reserved word is refused and changes nothing
but the mark, no later word of the trace program runs, and the schedules hold no reserved word. -/
def Obligations.ReservedWordRefused : Prop :=
  (∀ (s : State) (w : OpWord) (rest : List OpWord),
    (w &&& 0x0F ≠ 0 ∨ w >>> 4 = 0 ∨ 0x0A ≤ w >>> 4) → admission s = none →
    runWord w s = .refused .reservedOpWord ∧
    runTrace (w :: rest) s = { s with refusalMark := some .reservedOpWord } ∧
    (rstLevel s = false → s.driver = .harness (w :: rest) → step s = .refused .reservedOpWord)) ∧
  (∀ sch u w, scheduleWord sch u = some w → ∃ i, decodeWord w = .ok i)

/-- 60_exceptions.md rule R206: once set, the mark stays and no micro-operation runs; only `rst` clears it. -/
def Obligations.RefusalMarkSticks : Prop :=
  ∀ (s : State) (r : Refusal), s.refusalMark = some r →
    (rstLevel s = false → step s = .refused r) ∧
    (∀ ws, runTrace ws s = s) ∧
    (rstLevel s = true → ∃ t, step s = .next t ∧ t.refusalMark = none)

/-- 60_exceptions.md rule R203: SEQ.STEP and SEQ.NEXT refuse MODE = 7, which sets the mark and ends the
trace program; no micro-operation makes MODE 7 from another value, and it is not 7 at reset. -/
def Obligations.ReservedModeRefused : Prop :=
  (∀ s : State, s.mode = .reserved →
    exec .seqStep s = .refused .reservedMode ∧ exec .seqNext s = .refused .reservedMode ∧
    (admission s = none → ∀ rest,
      runTrace (0x70 :: rest) s = { s with refusalMark := some .reservedMode } ∧
      runTrace (0x80 :: rest) s = { s with refusalMark := some .reservedMode })) ∧
  (∀ (i : Instr) (s t : State), exec i s = .next t → s.mode ≠ .reserved → t.mode ≠ .reserved) ∧
  (∀ c, (State.resetWith c).mode ≠ .reserved)

/-- 60_exceptions.md rule R204; 00_scope.md rule R9: straps are refused before the run exactly when some
parameter lies outside its range, else the block starts from reset with just those values; and no
micro-operation runs on a configuration out of range. PULSE_US, COMP_DELAY_US and T_ITER have no
numeric range (log 9). -/
def Obligations.OutOfRangeStrapsRefused : Prop :=
  (∀ v : StrapNumbers,
    let inRange : Prop :=
      v.margin < 65536 ∧ v.fireComp < 65536 ∧ v.compPhase < 2 ∧
      v.clSentinel < 65536 ∧ v.tgtSentinel < 65536 ∧ 1 ≤ v.calibTicks ∧ v.calibTicks < 65536 ∧
      v.btnPattern < 256 ∧ v.levelMax < 4294967296 ∧
      (∀ st ∈ [v.stepUp, v.stepDown, v.stepOff, v.stepOn], 1 ≤ st ∧ st ≤ v.levelMax) ∧
      (∀ d ∈ [v.steadySemicycles, v.rampDownSemicycles], 1 ≤ d ∧ d ≤ 0xFFFFFFFF) ∧
      v.blink.length = 7 ∧ (∀ p ∈ v.blink, p.on ≤ 254 ∧ p.off ≤ 254)
    (¬ inRange → powerOn v = .refused .configOutOfRange) ∧
    (inRange → ∃ c : Config, powerOn v = .next (State.resetWith c) ∧ configInRange c = true ∧
      c.margin.toNat = v.margin ∧ c.fireComp.toNat = v.fireComp ∧ c.pulseUs = v.pulseUs ∧
      c.compDelayUs = v.compDelayUs ∧ c.compPhase.toNat = v.compPhase ∧
      c.clSentinel.toNat = v.clSentinel ∧ c.tgtSentinel.toNat = v.tgtSentinel ∧
      c.calibTicks.toNat = v.calibTicks ∧ c.btnPattern.toNat = v.btnPattern ∧
      c.levelMax.toNat = v.levelMax ∧ c.stepUp.toNat = v.stepUp ∧ c.stepDown.toNat = v.stepDown ∧
      c.stepOff.toNat = v.stepOff ∧ c.stepOn.toNat = v.stepOn ∧
      c.steadySemicycles.toNat = v.steadySemicycles ∧
      c.rampDownSemicycles.toNat = v.rampDownSemicycles ∧
      c.blink.patterns.map (fun p => (p.on.toNat, p.off.toNat)) = v.blink.map (fun p => (p.on, p.off)) ∧
      c.schedule = v.schedule ∧ c.tIterNs = v.tIterNs)) ∧
  (∀ s : State, configInRange s.cfg = false → rstLevel s = false → s.refusalMark = none →
    step s = .refused .configOutOfRange)

/-! ### Reset -/

/-- 70_reset_and_hazards.md rule R230: while `rst` = 1 no micro-operation runs, no pin is sampled and
every register, output pin and item of bookkeeping has its reset value, whatever came before. That CL
and TGT take the straps CL_SENTINEL and TGT_SENTINEL also when those are not 0xFFFF is the model's
reading (log 4), and that the samples to come and the driver stay is its choice (log 15). -/
def Obligations.ResetOverridesEverything : Prop :=
  ∀ s : State, rstLevel s = true →
    step s = .next {
      cfg := s.cfg, cl := s.cfg.clSentinel, ph := false, zh := 0x00, cnt := 0x0000,
      tgt := s.cfg.tgtSentinel, fired := false, zdone := false, caldone := false, sl := 0x0000,
      bh := 0x00, press := false, ls := false, le := 0x00, bon := 0x00, boff := 0x00,
      mode := .rampUp, level := 0x00000000, mtimer := 0x00000000, upc := 0, triacN := true,
      led := false, trace := [], sc := 0, refusalMark := none, rstIn := s.rstIn.tail,
      zcIn := s.zcIn, btnIn := s.btnIn, hostIn := s.hostIn, zcTaken := s.zcTaken,
      btnTaken := s.btnTaken, hostTaken := s.hostTaken, driver := s.driver }

/-- 70_reset_and_hazards.md rule R234: the first three micro-operations after reset in FULL, on straps
in range with COMP_PHASE = 1: the level is STEP_UP, no compensating delay is recorded, and the loop
starts with ZH = 0x00 waiting for 0xFF. -/
def Obligations.FirstPassFromReset : Prop :=
  ∀ c : Config, configInRange c = true → c.schedule = .full → c.compPhase = true →
    ∃ t, runSteps 3 (State.resetWith c) = .next t ∧ t.upc = 3 ∧ t.level = c.stepUp ∧
      t.sl = scaledLevel c.stepUp ∧ t.tgt = curve c (scaledLevel c.stepUp) c.clSentinel ∧
      t.trace = [] ∧ t.cnt = 0 ∧ t.zh = 0x00 ∧ expPattern t.ph = 0xFF

/-- 10_state.md rules R34, R35, R41; 41_cycle.md rule R135: reset meets the invariant. -/
def Obligations.ResetMeetsInvariant : Prop := ∀ c : Config, (State.resetWith c).Inv

/-! ### What every step keeps -/

/-- 10_state.md rules R34, R35, R41; 30_encoding.md rule R87; 41_cycle.md rules R128, R135: every step
keeps the invariant, from every state that meets it: the gate inactive, LEVEL ≤ LEVEL_MAX, MODE
defined, uPC in the schedule, and the zero-cross history as the schedule's step requires. -/
def Obligations.EveryStepKeepsInvariant : Prop :=
  ∀ s t : State, s.Inv → step s = .next t → t.Inv

/-- 10_state.md rule R38: no step writes a strap. -/
def Obligations.StepKeepsStraps : Prop :=
  ∀ s t : State, step s = .next t → t.cfg = s.cfg

/-- 10_state.md section 2, the register table's W column, with rules R21, R64, R65: what each register
is written by, for every micro-operation; everything else is unchanged. uPC is the
micro-sequencer's, the straps, `rst`, the refusal mark and the driver are written by none. -/
def Obligations.OnlyListedWriters : Prop :=
  ∀ (i : Instr) (s t : State), exec i s = .next t →
    (i ≠ .cycEnd → t.cl = s.cl ∧ t.ph = s.ph ∧ t.caldone = s.caldone ∧ t.sc = s.sc) ∧
    (i ≠ .cycIter → t.zh = s.zh ∧ t.zcIn = s.zcIn ∧ t.zcTaken = s.zcTaken ∧ t.triacN = s.triacN) ∧
    (i ≠ .cycBegin → i ≠ .cycIter → t.cnt = s.cnt ∧ t.fired = s.fired ∧ t.zdone = s.zdone) ∧
    (i ≠ .curve → t.tgt = s.tgt) ∧
    (i ≠ .seqStep → i ≠ .hostLoad → t.sl = s.sl ∧ t.bon = s.bon ∧ t.boff = s.boff) ∧
    (i ≠ .hostLoad → t.hostIn = s.hostIn ∧ t.hostTaken = s.hostTaken) ∧
    (i ≠ .btnPoll → t.bh = s.bh ∧ t.press = s.press ∧ t.btnIn = s.btnIn ∧ t.btnTaken = s.btnTaken) ∧
    (i ≠ .blink → t.ls = s.ls ∧ t.le = s.le ∧ t.led = s.led) ∧
    (i ≠ .seqNext → t.mode = s.mode) ∧
    (i ≠ .seqStep → t.level = s.level) ∧
    (i ≠ .seqStep → i ≠ .seqNext → t.mtimer = s.mtimer) ∧
    (i ≠ .cycBegin → i ≠ .cycIter → i ≠ .cycEnd → i ≠ .blink → t.trace = s.trace) ∧
    t.upc = s.upc ∧ t.cfg = s.cfg ∧ t.rstIn = s.rstIn ∧ t.refusalMark = s.refusalMark ∧
    t.driver = s.driver

/-- 10_state.md rule R42; 20_memory.md rule R69: outside reset a step only appends to the output trace. -/
def Obligations.TraceOnlyGrows : Prop :=
  ∀ s t : State, rstLevel s = false → step s = .next t → ∃ es, t.trace = s.trace ++ es

/-- 43_blink.md rule R163: LS, LE and the LED influence nothing but themselves and the Led events. Two
states that differ only there step to states that differ only there, or stop for the same reason. -/
def Obligations.BlinkerInfluencesNothing : Prop :=
  let blind (s : State) : State :=
    { s with ls := false, le := 0, led := false,
             trace := s.trace.filter (fun e => e != .led true && e != .led false) }
  ∀ s u : State, blind s = blind u →
    (∀ t, step s = .next t → ∃ v, step u = .next v ∧ blind v = blind t) ∧
    (∀ r, step s = .refused r → step u = .refused r)

/-! ### The mapper -/

/-- 40_mapper.md rules R102, R103: CURVE runs steps 1 to 5 and the level-0 override, and writes TGT and
nothing else; the rule's example. -/
def Obligations.CurveEffect : Prop :=
  (∀ s : State,
    let t1 := mulhi16 s.sl s.sl
    let t2 := mulhi16 t1 t1
    let t3 := (t2 >>> 1) + (s.sl >>> 1)
    let t5 := mulhi16 (s.cl - s.cfg.margin) (0xFFFF - t3)
    exec .curve s = .next { s with tgt := if s.sl = 0 then s.cfg.tgtSentinel else t5 }) ∧
  curve Config.tc 0x8000 0x05DC = 0x03CE ∧ decodeWord 0x10 = .ok .curve

/-- 40_mapper.md rule R101 (a), (b): mulhi16 is never above the true high half and never more than 1
below it, for every pair of operands. -/
def Obligations.MultiplierWithinOne : Prop :=
  ∀ a b : Word16, (mulhi16 a b).toNat ≤ trueMulhi a b ∧ trueMulhi a b ≤ (mulhi16 a b).toNat + 1

/-- 40_mapper.md rule R100, with R101 (d), (e): the multiplier's exact steps: from 0, for each of the bits
a[0] to a[14] a conditional addition of b >> 1 and then a shift, and for a[15] an addition without a
shift. The accumulator never carries out, and the number of additions is popcount(a), whatever b is. -/
def Obligations.MultiplierCarryAndCost : Prop :=
  ∀ a b : Word16,
    (∃ r : Nat → Word16, r 0 = 0 ∧
      (∀ k < 15, r (k + 1) = (if a.getLsbD k then r k + (b >>> 1) else r k) >>> 1) ∧
      mulhi16 a b = (if a.getLsbD 15 then r 15 + (b >>> 1) else r 15) ∧
      (∀ k ≤ 15, (r k).toNat ≤ 0x7FFF)) ∧
    (mulhi16 a b).toNat ≤ 0xFFFE ∧
    mulAdds a b = popcount a

/-- 40_mapper.md rules R105, R106: for every level but 0 the target lies in [0, max(a, 1) − 1] with
a = (CL − MARGIN) mod 2^16, so it is never 0xFFFF; at level 1 it is a − 1 or a − 2 (0 for a ≤ 1). -/
def Obligations.TargetRange : Prop :=
  ∀ (c : Config) (l cl : Word16), l ≠ 0 →
    (curve c l cl).toNat ≤ max (cl - c.margin).toNat 1 - 1 ∧ curve c l cl ≠ 0xFFFF ∧
    (2 ≤ (cl - c.margin).toNat →
      (curve c 1 cl).toNat = (cl - c.margin).toNat - 1 ∨ (curve c 1 cl).toNat = (cl - c.margin).toNat - 2) ∧
    ((cl - c.margin).toNat ≤ 1 → curve c 1 cl = 0)

/-- 40_mapper.md rule R106: for a fixed CL a brighter level gives a smaller or equal target, for every
CL and MARGIN, with TGT_SENTINEL = 0xFFFF. -/
def Obligations.BrighterFiresEarlier : Prop :=
  ∀ (c : Config) (l l' cl : Word16), c.tgtSentinel = 0xFFFF → l ≤ l' → curve c l' cl ≤ curve c l cl

/-! ### The timing loop -/

/-- 41_cycle.md rule R123: CYC.BEGIN clears CNT, FIRED and ZDONE, records CompDelay exactly on the
compensated phase, and changes nothing else. -/
def Obligations.CycBeginEffect : Prop :=
  decodeWord 0x20 = .ok .cycBegin ∧ ∀ s : State, exec .cycBegin s = .next
    { s with
      cnt := 0, fired := false, zdone := false
      trace := if s.ph = s.cfg.compPhase then s.trace ++ [.compDelay s.sc] else s.trace }

/-- 41_cycle.md rules R124, R125: CYC.ITER's fire check, sample, count and exit test, in that order, on
every state; the gate is left inactive after a pulse; nothing else changes. -/
def Obligations.CycIterEffect : Prop :=
  decodeWord 0x30 = .ok .cycIter ∧ ∀ s : State,
    let fires : Prop := s.fired = false ∧ s.cnt = s.tgt ∧ s.tgt ≠ s.cfg.tgtSentinel
    let zh : Byte := (s.zh <<< 1) ||| (if pinLevel .zcIn s then 1 else 0)
    exec .cycIter s = .next
      { s with
        trace := if fires then s.trace ++ [.fire s.sc s.cnt, .pulseEnd] else s.trace
        triacN := if fires then true else s.triacN
        fired := if fires then true else s.fired
        cnt := (if fires then s.cnt + s.cfg.fireComp else s.cnt) + 1
        zh := zh
        zdone := if zh = (if s.ph then 0x00 else 0xFF) then true else s.zdone
        zcIn := s.zcIn.tail
        zcTaken := s.zcTaken + 1 }

/-- 41_cycle.md rules R130, R132: CYC.END's tracking by one toward CNT or its one snap, PH inverted,
Tick(sc), sc counted; nothing else changes. -/
def Obligations.CycEndEffect : Prop :=
  decodeWord 0x40 = .ok .cycEnd ∧ ∀ s : State,
    let n : Word16 := if s.cnt < s.cl then s.cl - 1 else if s.cl < s.cnt then s.cl + 1 else s.cl
    let snap : Prop := s.caldone = false ∧ n < s.cl ∧ n = s.cfg.clSentinel - s.cfg.calibTicks
    exec .cycEnd s = .next
      { s with
        cl := if snap then s.cnt else n
        caldone := if snap then true else s.caldone
        ph := !s.ph
        trace := s.trace ++ [.tick s.sc]
        sc := s.sc + 1 }

/-- 41_cycle.md rules R126, R127, R134: with TGT = T not the sentinel, k iterations after CYC.BEGIN
record exactly one pulse, at count T, if T < k, and none otherwise; CNT is then k, plus FIRE_COMP if
the pulse came, modulo 2^16. For every k, so across every wrap of CNT. -/
def Obligations.FiresOnceAtTarget : Prop :=
  ∀ (s : State) (k : Nat), s.tgt ≠ s.cfg.tgtSentinel →
    ∃ b t, exec .cycBegin s = .next b ∧
      runInstrs (.cycBegin :: List.replicate k .cycIter) s = .next t ∧
      t.fired = decide (s.tgt.toNat < k) ∧
      t.trace = b.trace ++ (if s.tgt.toNat < k then [.fire s.sc s.tgt, .pulseEnd] else []) ∧
      t.cnt = BitVec.ofNat 16 k + (if s.tgt.toNat < k then s.cfg.fireComp else 0)

/-- 41_cycle.md rule R126; 40_mapper.md rule R104; the property that level 0 never fires "regardless of
CycleLength": SL = 0, then CURVE, CYC.BEGIN and any number of iterations, gives no pulse. -/
def Obligations.LevelZeroNeverFires : Prop :=
  ∀ (s : State) (k : Nat), s.sl = 0 →
    ∃ t, runInstrs ([.curve, .cycBegin] ++ List.replicate k .cycIter) s = .next t ∧
      fireCount t.trace = fireCount s.trace ∧ t.fired = false ∧ t.triacN = s.triacN ∧
      t.cnt = BitVec.ofNat 16 k

/-- 41_cycle.md rule R128; 60_exceptions.md rule R207 (EA1): if the eight samples from the k-th to come
are all EXP(PH)[0], the loop is left within k + 8 steps, with ZH = EXP(PH), in the same semicycle. -/
def Obligations.LoopEndsUnderEA1 : Prop :=
  ∀ (s : State) (k : Nat), s.Running → s.upc = 3 → s.zdone = false → exitSuppliedAt s k →
    ∃ n t, 1 ≤ n ∧ n ≤ k + 8 ∧ runSteps n s = .next t ∧ t.upc = 4 ∧ t.zdone = true ∧
      t.zh = expPattern s.ph ∧ t.ph = s.ph ∧ t.sc = s.sc

/-- 41_cycle.md rule R129 (a): from a loop start, where ZH is the last semicycle's pattern, if the loop
is left in the n-th iteration then that is the 8th or a later one, and its sample and the seven before
it were all EXP(PH)[0]. -/
def Obligations.LoopLeftAfterEightSamples : Prop :=
  ∀ (s t : State) (n : Nat), s.Running → s.upc = 3 → s.zdone = false → s.zh = expPattern (!s.ph) →
    (∀ m < n, ∃ u, runSteps m s = .next u ∧ u.upc = 3) → runSteps n s = .next t → t.upc = 4 →
    8 ≤ n ∧ exitSuppliedAt s (n - 8)

/-- 60_exceptions.md rule R205: for every n, if `zc_in` does not supply the eight samples within n
iterations, then after n steps the block is still in the loop at step 3: CNT went up n times and
wrapped, at most one pulse was issued, and no CYC.END, BLINK, BTN.POLL or SEQ.NEXT ran. So without a
zero-cross the loop never ends. -/
def Obligations.MissingZeroCrossHangs : Prop :=
  ∀ (s : State) (n : Nat), s.Running → s.upc = 3 → s.zdone = false → s.zh = expPattern (!s.ph) →
    (∀ k, k + 8 ≤ n → ¬ exitSuppliedAt s k) →
    ∃ t, runSteps n s = .next t ∧ t.upc = 3 ∧ t.zdone = false ∧
      fireCount t.trace ≤ fireCount s.trace + 1 ∧
      t.cnt = s.cnt + BitVec.ofNat 16 n + (if t.fired = s.fired then 0 else s.cfg.fireComp) ∧
      t.sc = s.sc ∧ t.cl = s.cl ∧ t.ph = s.ph ∧ t.ls = s.ls ∧ t.le = s.le ∧ t.led = s.led ∧
      t.bh = s.bh ∧ t.mode = s.mode ∧ (s.triacN = true → t.triacN = true)

/-! ### CycleLength -/

/-- 10_state.md rules R22, R29; 41_cycle.md rule R133 (a): CL moves by at most 1 in any micro-operation,
except in the one that sets CALDONE, which is a CYC.END and sets CL to CNT; CALDONE is never cleared. -/
def Obligations.LengthMovesByOne : Prop :=
  ∀ (i : Instr) (s t : State), exec i s = .next t →
    (s.caldone = true → t.caldone = true) ∧
    (t.caldone = s.caldone → t.cl.toNat ≤ s.cl.toNat + 1 ∧ s.cl.toNat ≤ t.cl.toNat + 1) ∧
    (t.caldone ≠ s.caldone → i = .cycEnd ∧ t.cl = s.cnt)

/-- 41_cycle.md rule R133 (b): once calibrated, under a constant count N, CL moves by 1 toward N in each
semicycle, reaches N after |CL − N| semicycles and stays there. -/
def Obligations.LengthConverges : Prop :=
  ∀ (s : State) (n : Word16) (k : Nat), s.caldone = true →
    ∃ t, runEnds (List.replicate k n) s = .next t ∧ t.caldone = true ∧
      t.cl.toNat =
        if s.cl ≤ n then min (s.cl.toNat + k) n.toNat else max (s.cl.toNat - k) n.toNat

/-- 41_cycle.md rule R133 (c): once calibrated, with CL inside a range that every count lies in, CL stays
inside it, whatever the counts and however many. -/
def Obligations.LengthStaysAmongCounts : Prop :=
  ∀ (s : State) (lo hi : Word16) (counts : List Word16), s.caldone = true → lo ≤ s.cl → s.cl ≤ hi →
    (∀ c ∈ counts, lo ≤ c ∧ c ≤ hi) →
    ∃ t, runEnds counts s = .next t ∧ t.caldone = true ∧ lo ≤ t.cl ∧ t.cl ≤ hi

/-- 41_cycle.md rule R131: from CL = CL_SENTINEL, with every count below all the values CL takes on the
way, CL ticks down by 1 in each CYC.END before the CALIB_TICKS-th, which snaps CL to its own count. -/
def Obligations.CalibrationSnaps : Prop :=
  ∀ (s : State) (counts : List Word16) (last : Word16),
    s.caldone = false → s.cl = s.cfg.clSentinel →
    counts.length + 1 = s.cfg.calibTicks.toNat →
    (∀ c ∈ counts ++ [last], c.toNat + s.cfg.calibTicks.toNat ≤ s.cfg.clSentinel.toNat) →
    (∀ k ≤ counts.length, ∃ t, runEnds (counts.take k) s = .next t ∧ t.caldone = false ∧
      t.cl.toNat + k = s.cfg.clSentinel.toNat) ∧
    (∃ t, runEnds (counts ++ [last]) s = .next t ∧ t.caldone = true ∧ t.cl = last)

/-! ### Button and blinker -/

/-- 42_button.md rule R150: BTN.POLL shifts one sample into BH and sets or clears PRESS; nothing else
changes. -/
def Obligations.BtnPollEffect : Prop :=
  decodeWord 0x50 = .ok .btnPoll ∧ ∀ s : State,
    let bh : Byte := (s.bh <<< 1) ||| (if pinLevel .btnIn s then 1 else 0)
    exec .btnPoll s = .next
      { s with
        bh := bh
        press := decide (bh = s.cfg.btnPattern)
        btnIn := s.btnIn.tail
        btnTaken := s.btnTaken + 1 }

/-- 42_button.md rule R151 (a): over any sample sequence from BH = 0x00, PRESS = 1 after a call exactly
when its sample is 1 and the 7 before it are all 0, samples before the first counting as 0. -/
def Obligations.PressIsAFreshEdge : Prop :=
  ∀ (s : State) (before : List Bool) (sample : Bool), s.bh = 0x00 → s.cfg.btnPattern = 0x01 →
    s.btnIn = before ++ [sample] →
    ∃ t, runInstrs (List.replicate (before.length + 1) .btnPoll) s = .next t ∧
      t.press = (sample && (before.reverse.take 7).all (fun b => !b))

/-- 42_button.md rule R151 (b): while the button stays pressed after a reported press, PRESS stays 0. -/
def Obligations.HeldPressReportedOnce : Prop :=
  ∀ (s : State) (n : Nat), s.bh = 0x01 → s.cfg.btnPattern = 0x01 →
    s.btnIn = List.replicate (n + 1) true →
    ∃ t, runInstrs (List.replicate (n + 1) .btnPoll) s = .next t ∧ t.press = false

/-- 43_blink.md rule R160: BLINK counts (saturating), switches, drives `led` and records it; nothing
else changes. -/
def Obligations.BlinkEffect : Prop :=
  decodeWord 0x60 = .ok .blink ∧ ∀ s : State,
    let le : Byte := if s.le ≠ 0xFF then s.le + 1 else s.le
    let turnsOn : Prop := s.ls = false ∧ 0 < s.bon ∧ s.boff < le
    let turnsOff : Prop := s.ls = true ∧ 0 < s.boff ∧ s.bon < le
    let ls : Bool := if turnsOn then true else if turnsOff then false else s.ls
    exec .blink s = .next
      { s with
        ls := ls
        le := if turnsOn ∨ turnsOff then 0 else le
        led := ls
        trace := s.trace ++ [.led ls] }

/-- 43_blink.md rule R161 (a): with both parameters at least 1, a phase that has just begun lasts its
parameter + 1 BLINKs including the one that began it, and then the other begins; for parameters up
to 254. -/
def Obligations.BlinkPhaseLengths : Prop :=
  ∀ s : State, 1 ≤ s.bon → 1 ≤ s.boff → s.bon ≤ 254 → s.boff ≤ 254 → s.le = 0 →
    (s.ls = true →
      (∀ k ≤ s.bon.toNat, ∃ t, runInstrs (List.replicate k .blink) s = .next t ∧ t.ls = true) ∧
      (∃ t, runInstrs (List.replicate (s.bon.toNat + 1) .blink) s = .next t ∧ t.ls = false ∧ t.le = 0)) ∧
    (s.ls = false →
      (∀ k ≤ s.boff.toNat, ∃ t, runInstrs (List.replicate k .blink) s = .next t ∧ t.ls = false) ∧
      (∃ t, runInstrs (List.replicate (s.boff.toNat + 1) .blink) s = .next t ∧ t.ls = true ∧ t.le = 0))

/-- 43_blink.md rule R161 (b) to (e), R162: the patterns with a permanent phase, after any number of
BLINKs from 1 on: BOFF = 0 is solid on, BON = 0 is dark, both 0 hold the state, and a phase whose
parameter is 255 never ends. -/
def Obligations.BlinkPermanentPhases : Prop :=
  ∀ (s : State) (n : Nat), ∃ t, runInstrs (List.replicate (n + 1) .blink) s = .next t ∧ t.led = t.ls ∧
    (0 < s.bon → s.boff = 0 → t.ls = true) ∧
    (s.bon = 0 → 0 < s.boff → t.ls = false) ∧
    (s.bon = 0 → s.boff = 0 → t.ls = s.ls) ∧
    (s.ls = true → s.bon = 255 → t.ls = true) ∧
    (s.ls = false → s.boff = 255 → t.ls = false)

/-! ### Sequencer and host -/

/-- 44_sequencer.md rules R172, R173: rising steps clamp at LEVEL_MAX, falling steps at 0, exactly; the
sum of a level and a step up to 0x7FFFFFFF fits in 32 bits. -/
def Obligations.LevelStepsClamp : Prop :=
  ∀ l step levelMax : Word32,
    (levelUp l step levelMax).toNat = min (l.toNat + step.toNat) levelMax.toNat ∧
    ((levelDown l step).toNat = if l.toNat ≤ step.toNat then 0 else l.toNat - step.toNat) ∧
    (l ≤ 0x7FFFFFFF → step ≤ 0x7FFFFFFF → l.toNat + step.toNat < 2 ^ 32)

/-- 44_sequencer.md rule R171: SEQ.STEP in each of the seven modes: LEVEL, MTIMER, SL of the new LEVEL,
the mode's blink pattern; nothing else changes. MTIMER stays at 0xFFFFFFFF. In MODE 7 it refuses. -/
def Obligations.SeqStepEffect : Prop :=
  decodeWord 0x70 = .ok .seqStep ∧
  (∀ s : State, s.mode = .reserved → exec .seqStep s = .refused .reservedMode) ∧
  ∀ (s : State) (level mtimer : Word32) (p : BlinkPattern),
    let c := s.cfg
    let counted : Word32 := if s.mtimer = 0xFFFFFFFF then 0xFFFFFFFF else s.mtimer + 1
    (s.mode, level, mtimer, p) ∈
      [ (Mode.rampUp, levelUp s.level c.stepUp c.levelMax, s.mtimer, c.blink.rampUp),
        (Mode.steady, c.levelMax, counted, c.blink.steady),
        (Mode.rampDown, levelDown s.level c.stepDown, counted, c.blink.rampDown),
        (Mode.offRamp, levelDown s.level c.stepOff, s.mtimer, c.blink.offRamp),
        (Mode.off, 0, s.mtimer, c.blink.off),
        (Mode.onRamp, levelUp s.level c.stepOn c.levelMax, s.mtimer, c.blink.onRamp),
        (Mode.on, c.levelMax, s.mtimer, c.blink.on) ] →
    exec .seqStep s = .next
      { s with
        level := level, mtimer := mtimer
        sl := ((level >>> 16) <<< 1).setWidth 16
        bon := p.on, boff := p.off }

/-- 44_sequencer.md rules R180 to R183: SEQ.NEXT is the transition table, the press first, with MTIMER
cleared on entering Steady or RampDown only; without a press or an end condition nothing changes, and
LEVEL never does (R184). In MODE 7 it refuses. -/
def Obligations.SeqNextEffect : Prop :=
  decodeWord 0x80 = .ok .seqNext ∧
  (∀ s : State, s.mode = .reserved → exec .seqNext s = .refused .reservedMode) ∧
  ∀ s : State, s.mode ≠ .reserved →
    let enter (m : Mode) : State := { s with mode := m }
    exec .seqNext s = .next (
      if s.mode = .rampDown then
        (if s.cfg.rampDownSemicycles ≤ s.mtimer then enter .offRamp else s)
      else if s.press = true then
        (if s.mode = .offRamp ∨ s.mode = .off then enter .onRamp else enter .offRamp)
      else if s.mode = .rampUp ∧ s.level = s.cfg.levelMax then { enter .steady with mtimer := 0 }
      else if s.mode = .steady ∧ s.cfg.steadySemicycles ≤ s.mtimer then { enter .rampDown with mtimer := 0 }
      else if s.mode = .offRamp ∧ s.level = 0 then enter .off
      else if s.mode = .onRamp ∧ s.level = s.cfg.levelMax then enter .on
      else s)

/-- 44_sequencer.md rule R186: HOST.LOAD reads the three ports once and loads SL, BON and BOFF; any
value is admitted; nothing else changes. -/
def Obligations.HostLoadEffect : Prop :=
  decodeWord 0x90 = .ok .hostLoad ∧ ∀ s : State, exec .hostLoad s = .next
    { s with
      sl := (hostPorts s).level
      bon := (hostPorts s).blinkOn
      boff := (hostPorts s).blinkOff
      hostIn := s.hostIn.tail
      hostTaken := s.hostTaken + 1 }

/-- 44_sequencer.md rule R176: with LEVEL ≤ 0x7FFFFFFF ScaledLevel is even, at most 0xFFFE, and 0
exactly when LEVEL < 0x00010000; LEVEL_MAX gives 0xFFFE. -/
def Obligations.ScaledLevelReach : Prop :=
  (∀ level : Word32, level ≤ 0x7FFFFFFF →
    (scaledLevel level).toNat = 2 * (level.toNat / 65536) ∧ scaledLevel level ≤ 0xFFFE ∧
    (scaledLevel level = 0 ↔ level < 0x00010000)) ∧
  scaledLevel 0x7FFFFFFF = 0xFFFE

/-- 44_sequencer.md rule R174: n SEQ.STEPs in one ramp mode change LEVEL by n steps, exactly, with the
clamp at the end; so a ramp of step s over a distance d takes ceil(d / s) semicycles. -/
def Obligations.RampsAreLinear : Prop :=
  ∀ (s : State) (n : Nat), s.level ≤ s.cfg.levelMax →
    (s.mode = .rampUp → ∃ t, runInstrs (List.replicate n .seqStep) s = .next t ∧
      t.level.toNat = min (s.level.toNat + n * s.cfg.stepUp.toNat) s.cfg.levelMax.toNat) ∧
    (s.mode = .onRamp → ∃ t, runInstrs (List.replicate n .seqStep) s = .next t ∧
      t.level.toNat = min (s.level.toNat + n * s.cfg.stepOn.toNat) s.cfg.levelMax.toNat) ∧
    (s.mode = .offRamp → ∃ t, runInstrs (List.replicate n .seqStep) s = .next t ∧
      t.level.toNat = s.level.toNat - n * s.cfg.stepOff.toNat) ∧
    (s.mode = .rampDown → ∃ t, runInstrs (List.replicate n .seqStep) s = .next t ∧
      t.level.toNat = s.level.toNat - n * s.cfg.stepDown.toNat)

/-- 44_sequencer.md rule R187 (a): a press reported in RampUp at the level L enters Off-ramp at L, and over
any number of later passes of the sequencer in which no press is reported, LEVEL never exceeds L and
the mode is Off-ramp or Off: no overshoot. From Off-ramp or Off, likewise, LEVEL does not rise
while no press is reported. -/
def Obligations.NoOvershootAfterPress : Prop :=
  ∀ (s : State) (n : Nat),
    let passes : List Instr := (List.replicate n [Instr.seqStep, Instr.seqNext]).flatten
    (s.mode = .rampUp → s.press = true →
      ∃ u t, exec .seqNext s = .next u ∧ u.mode = .offRamp ∧ u.level = s.level ∧
        runInstrs passes { u with press := false } = .next t ∧
        t.level ≤ s.level ∧ (t.mode = .offRamp ∨ t.mode = .off)) ∧
    (s.mode = .offRamp ∨ s.mode = .off → s.press = false →
      ∃ t, runInstrs passes s = .next t ∧
        t.level ≤ s.level ∧ (t.mode = .offRamp ∨ t.mode = .off))

/-- 44_sequencer.md rule R175: Steady, entered with MTIMER = 0 and not ended by a press, lasts exactly
STEADY_SEMICYCLES passes, and is then left for RampDown with MTIMER = 0; RampDown lasts exactly
RAMPDOWN_SEMICYCLES passes, pressed or not. -/
def Obligations.TimedModesLast : Prop :=
  ∀ (s : State) (n : Nat), s.mtimer = 0 →
    (s.mode = .steady → s.press = false → 1 ≤ s.cfg.steadySemicycles → n ≤ s.cfg.steadySemicycles.toNat →
      ∃ t, runInstrs ((List.replicate n [Instr.seqStep, Instr.seqNext]).flatten) s = .next t ∧
        t.mode = (if n = s.cfg.steadySemicycles.toNat then .rampDown else .steady) ∧
        t.mtimer.toNat = (if n = s.cfg.steadySemicycles.toNat then 0 else n)) ∧
    (s.mode = .rampDown → 1 ≤ s.cfg.rampDownSemicycles → n ≤ s.cfg.rampDownSemicycles.toNat →
      ∃ t, runInstrs ((List.replicate n [Instr.seqStep, Instr.seqNext]).flatten) s = .next t ∧
        t.mode = (if n = s.cfg.rampDownSemicycles.toNat then .offRamp else .rampDown))

/-- 44_sequencer.md rule R186; 10_state.md rule R40: in ENGINE_ONLY, driven by the micro-sequencer, a
step leaves MODE, LEVEL and MTIMER alone, reads none of them, and `press_out` shows PRESS. -/
def Obligations.EngineOnlyWithoutSequencer : Prop :=
  ∀ (s t : State) (m : Mode) (l x : Word32), s.cfg.schedule = .engineOnly → s.driver = .sequencer →
    rstLevel s = false → step s = .next t →
    t.mode = s.mode ∧ t.level = s.level ∧ t.mtimer = s.mtimer ∧ pressOut t = some t.press ∧
    step { s with mode := m, level := l, mtimer := x } =
      .next { t with mode := m, level := l, mtimer := x }

/-- 44_sequencer.md rule R187 (d): in Off a semicycle's SEQ.STEP, CURVE, CYC.BEGIN and any number of
iterations give no pulse. -/
def Obligations.OffNeverFires : Prop :=
  ∀ (s : State) (k : Nat), s.mode = .off →
    ∃ t, runInstrs ([.seqStep, .curve, .cycBegin] ++ List.replicate k .cycIter) s = .next t ∧
      t.level = 0 ∧ t.sl = 0 ∧ t.fired = false ∧ fireCount t.trace = fireCount s.trace
end

