-- ==== Sys2Proof/Laws/State.lean ====
section
/-! SUPPORT. What each named update of State writes and keeps, field by field. -/

namespace Sys2Proof.Machine

variable (s : State)

@[simp] theorem wait_eq (d : Nat) : wait d s = s := rfl

@[simp] theorem emit_cfg (e : Event) : (emit e s).cfg = s.cfg := rfl
@[simp] theorem emit_cl (e : Event) : (emit e s).cl = s.cl := rfl
@[simp] theorem emit_ph (e : Event) : (emit e s).ph = s.ph := rfl
@[simp] theorem emit_zh (e : Event) : (emit e s).zh = s.zh := rfl
@[simp] theorem emit_cnt (e : Event) : (emit e s).cnt = s.cnt := rfl
@[simp] theorem emit_tgt (e : Event) : (emit e s).tgt = s.tgt := rfl
@[simp] theorem emit_fired (e : Event) : (emit e s).fired = s.fired := rfl
@[simp] theorem emit_zdone (e : Event) : (emit e s).zdone = s.zdone := rfl
@[simp] theorem emit_caldone (e : Event) : (emit e s).caldone = s.caldone := rfl
@[simp] theorem emit_sl (e : Event) : (emit e s).sl = s.sl := rfl
@[simp] theorem emit_bh (e : Event) : (emit e s).bh = s.bh := rfl
@[simp] theorem emit_press (e : Event) : (emit e s).press = s.press := rfl
@[simp] theorem emit_ls (e : Event) : (emit e s).ls = s.ls := rfl
@[simp] theorem emit_le (e : Event) : (emit e s).le = s.le := rfl
@[simp] theorem emit_bon (e : Event) : (emit e s).bon = s.bon := rfl
@[simp] theorem emit_boff (e : Event) : (emit e s).boff = s.boff := rfl
@[simp] theorem emit_mode (e : Event) : (emit e s).mode = s.mode := rfl
@[simp] theorem emit_level (e : Event) : (emit e s).level = s.level := rfl
@[simp] theorem emit_mtimer (e : Event) : (emit e s).mtimer = s.mtimer := rfl
@[simp] theorem emit_upc (e : Event) : (emit e s).upc = s.upc := rfl
@[simp] theorem emit_triacN (e : Event) : (emit e s).triacN = s.triacN := rfl
@[simp] theorem emit_led (e : Event) : (emit e s).led = s.led := rfl
@[simp] theorem emit_trace (e : Event) : (emit e s).trace = s.trace ++ [e] := rfl
@[simp] theorem emit_sc (e : Event) : (emit e s).sc = s.sc := rfl
@[simp] theorem emit_refusalMark (e : Event) : (emit e s).refusalMark = s.refusalMark := rfl
@[simp] theorem emit_rstIn (e : Event) : (emit e s).rstIn = s.rstIn := rfl
@[simp] theorem emit_zcIn (e : Event) : (emit e s).zcIn = s.zcIn := rfl
@[simp] theorem emit_btnIn (e : Event) : (emit e s).btnIn = s.btnIn := rfl
@[simp] theorem emit_hostIn (e : Event) : (emit e s).hostIn = s.hostIn := rfl
@[simp] theorem emit_zcTaken (e : Event) : (emit e s).zcTaken = s.zcTaken := rfl
@[simp] theorem emit_btnTaken (e : Event) : (emit e s).btnTaken = s.btnTaken := rfl
@[simp] theorem emit_hostTaken (e : Event) : (emit e s).hostTaken = s.hostTaken := rfl
@[simp] theorem emit_driver (e : Event) : (emit e s).driver = s.driver := rfl

@[simp] theorem drivePin_triacN_cfg (v : Bool) : (drivePin .triacN v s).cfg = s.cfg := rfl
@[simp] theorem drivePin_triacN_cl (v : Bool) : (drivePin .triacN v s).cl = s.cl := rfl
@[simp] theorem drivePin_triacN_ph (v : Bool) : (drivePin .triacN v s).ph = s.ph := rfl
@[simp] theorem drivePin_triacN_zh (v : Bool) : (drivePin .triacN v s).zh = s.zh := rfl
@[simp] theorem drivePin_triacN_cnt (v : Bool) : (drivePin .triacN v s).cnt = s.cnt := rfl
@[simp] theorem drivePin_triacN_tgt (v : Bool) : (drivePin .triacN v s).tgt = s.tgt := rfl
@[simp] theorem drivePin_triacN_fired (v : Bool) : (drivePin .triacN v s).fired = s.fired := rfl
@[simp] theorem drivePin_triacN_zdone (v : Bool) : (drivePin .triacN v s).zdone = s.zdone := rfl
@[simp] theorem drivePin_triacN_caldone (v : Bool) : (drivePin .triacN v s).caldone = s.caldone := rfl
@[simp] theorem drivePin_triacN_sl (v : Bool) : (drivePin .triacN v s).sl = s.sl := rfl
@[simp] theorem drivePin_triacN_bh (v : Bool) : (drivePin .triacN v s).bh = s.bh := rfl
@[simp] theorem drivePin_triacN_press (v : Bool) : (drivePin .triacN v s).press = s.press := rfl
@[simp] theorem drivePin_triacN_ls (v : Bool) : (drivePin .triacN v s).ls = s.ls := rfl
@[simp] theorem drivePin_triacN_le (v : Bool) : (drivePin .triacN v s).le = s.le := rfl
@[simp] theorem drivePin_triacN_bon (v : Bool) : (drivePin .triacN v s).bon = s.bon := rfl
@[simp] theorem drivePin_triacN_boff (v : Bool) : (drivePin .triacN v s).boff = s.boff := rfl
@[simp] theorem drivePin_triacN_mode (v : Bool) : (drivePin .triacN v s).mode = s.mode := rfl
@[simp] theorem drivePin_triacN_level (v : Bool) : (drivePin .triacN v s).level = s.level := rfl
@[simp] theorem drivePin_triacN_mtimer (v : Bool) : (drivePin .triacN v s).mtimer = s.mtimer := rfl
@[simp] theorem drivePin_triacN_upc (v : Bool) : (drivePin .triacN v s).upc = s.upc := rfl
@[simp] theorem drivePin_triacN_triacN (v : Bool) : (drivePin .triacN v s).triacN = v := rfl
@[simp] theorem drivePin_triacN_led (v : Bool) : (drivePin .triacN v s).led = s.led := rfl
@[simp] theorem drivePin_triacN_trace (v : Bool) : (drivePin .triacN v s).trace = s.trace := rfl
@[simp] theorem drivePin_triacN_sc (v : Bool) : (drivePin .triacN v s).sc = s.sc := rfl
@[simp] theorem drivePin_triacN_refusalMark (v : Bool) : (drivePin .triacN v s).refusalMark = s.refusalMark := rfl
@[simp] theorem drivePin_triacN_rstIn (v : Bool) : (drivePin .triacN v s).rstIn = s.rstIn := rfl
@[simp] theorem drivePin_triacN_zcIn (v : Bool) : (drivePin .triacN v s).zcIn = s.zcIn := rfl
@[simp] theorem drivePin_triacN_btnIn (v : Bool) : (drivePin .triacN v s).btnIn = s.btnIn := rfl
@[simp] theorem drivePin_triacN_hostIn (v : Bool) : (drivePin .triacN v s).hostIn = s.hostIn := rfl
@[simp] theorem drivePin_triacN_zcTaken (v : Bool) : (drivePin .triacN v s).zcTaken = s.zcTaken := rfl
@[simp] theorem drivePin_triacN_btnTaken (v : Bool) : (drivePin .triacN v s).btnTaken = s.btnTaken := rfl
@[simp] theorem drivePin_triacN_hostTaken (v : Bool) : (drivePin .triacN v s).hostTaken = s.hostTaken := rfl
@[simp] theorem drivePin_triacN_driver (v : Bool) : (drivePin .triacN v s).driver = s.driver := rfl

@[simp] theorem drivePin_led_cfg (v : Bool) : (drivePin .led v s).cfg = s.cfg := rfl
@[simp] theorem drivePin_led_cl (v : Bool) : (drivePin .led v s).cl = s.cl := rfl
@[simp] theorem drivePin_led_ph (v : Bool) : (drivePin .led v s).ph = s.ph := rfl
@[simp] theorem drivePin_led_zh (v : Bool) : (drivePin .led v s).zh = s.zh := rfl
@[simp] theorem drivePin_led_cnt (v : Bool) : (drivePin .led v s).cnt = s.cnt := rfl
@[simp] theorem drivePin_led_tgt (v : Bool) : (drivePin .led v s).tgt = s.tgt := rfl
@[simp] theorem drivePin_led_fired (v : Bool) : (drivePin .led v s).fired = s.fired := rfl
@[simp] theorem drivePin_led_zdone (v : Bool) : (drivePin .led v s).zdone = s.zdone := rfl
@[simp] theorem drivePin_led_caldone (v : Bool) : (drivePin .led v s).caldone = s.caldone := rfl
@[simp] theorem drivePin_led_sl (v : Bool) : (drivePin .led v s).sl = s.sl := rfl
@[simp] theorem drivePin_led_bh (v : Bool) : (drivePin .led v s).bh = s.bh := rfl
@[simp] theorem drivePin_led_press (v : Bool) : (drivePin .led v s).press = s.press := rfl
@[simp] theorem drivePin_led_ls (v : Bool) : (drivePin .led v s).ls = s.ls := rfl
@[simp] theorem drivePin_led_le (v : Bool) : (drivePin .led v s).le = s.le := rfl
@[simp] theorem drivePin_led_bon (v : Bool) : (drivePin .led v s).bon = s.bon := rfl
@[simp] theorem drivePin_led_boff (v : Bool) : (drivePin .led v s).boff = s.boff := rfl
@[simp] theorem drivePin_led_mode (v : Bool) : (drivePin .led v s).mode = s.mode := rfl
@[simp] theorem drivePin_led_level (v : Bool) : (drivePin .led v s).level = s.level := rfl
@[simp] theorem drivePin_led_mtimer (v : Bool) : (drivePin .led v s).mtimer = s.mtimer := rfl
@[simp] theorem drivePin_led_upc (v : Bool) : (drivePin .led v s).upc = s.upc := rfl
@[simp] theorem drivePin_led_triacN (v : Bool) : (drivePin .led v s).triacN = s.triacN := rfl
@[simp] theorem drivePin_led_led (v : Bool) : (drivePin .led v s).led = v := rfl
@[simp] theorem drivePin_led_trace (v : Bool) : (drivePin .led v s).trace = s.trace := rfl
@[simp] theorem drivePin_led_sc (v : Bool) : (drivePin .led v s).sc = s.sc := rfl
@[simp] theorem drivePin_led_refusalMark (v : Bool) : (drivePin .led v s).refusalMark = s.refusalMark := rfl
@[simp] theorem drivePin_led_rstIn (v : Bool) : (drivePin .led v s).rstIn = s.rstIn := rfl
@[simp] theorem drivePin_led_zcIn (v : Bool) : (drivePin .led v s).zcIn = s.zcIn := rfl
@[simp] theorem drivePin_led_btnIn (v : Bool) : (drivePin .led v s).btnIn = s.btnIn := rfl
@[simp] theorem drivePin_led_hostIn (v : Bool) : (drivePin .led v s).hostIn = s.hostIn := rfl
@[simp] theorem drivePin_led_zcTaken (v : Bool) : (drivePin .led v s).zcTaken = s.zcTaken := rfl
@[simp] theorem drivePin_led_btnTaken (v : Bool) : (drivePin .led v s).btnTaken = s.btnTaken := rfl
@[simp] theorem drivePin_led_hostTaken (v : Bool) : (drivePin .led v s).hostTaken = s.hostTaken := rfl
@[simp] theorem drivePin_led_driver (v : Bool) : (drivePin .led v s).driver = s.driver := rfl

@[simp] theorem afterSample_zcIn_cfg : (afterSample .zcIn s).cfg = s.cfg := rfl
@[simp] theorem afterSample_zcIn_cl : (afterSample .zcIn s).cl = s.cl := rfl
@[simp] theorem afterSample_zcIn_ph : (afterSample .zcIn s).ph = s.ph := rfl
@[simp] theorem afterSample_zcIn_zh : (afterSample .zcIn s).zh = s.zh := rfl
@[simp] theorem afterSample_zcIn_cnt : (afterSample .zcIn s).cnt = s.cnt := rfl
@[simp] theorem afterSample_zcIn_tgt : (afterSample .zcIn s).tgt = s.tgt := rfl
@[simp] theorem afterSample_zcIn_fired : (afterSample .zcIn s).fired = s.fired := rfl
@[simp] theorem afterSample_zcIn_zdone : (afterSample .zcIn s).zdone = s.zdone := rfl
@[simp] theorem afterSample_zcIn_caldone : (afterSample .zcIn s).caldone = s.caldone := rfl
@[simp] theorem afterSample_zcIn_sl : (afterSample .zcIn s).sl = s.sl := rfl
@[simp] theorem afterSample_zcIn_bh : (afterSample .zcIn s).bh = s.bh := rfl
@[simp] theorem afterSample_zcIn_press : (afterSample .zcIn s).press = s.press := rfl
@[simp] theorem afterSample_zcIn_ls : (afterSample .zcIn s).ls = s.ls := rfl
@[simp] theorem afterSample_zcIn_le : (afterSample .zcIn s).le = s.le := rfl
@[simp] theorem afterSample_zcIn_bon : (afterSample .zcIn s).bon = s.bon := rfl
@[simp] theorem afterSample_zcIn_boff : (afterSample .zcIn s).boff = s.boff := rfl
@[simp] theorem afterSample_zcIn_mode : (afterSample .zcIn s).mode = s.mode := rfl
@[simp] theorem afterSample_zcIn_level : (afterSample .zcIn s).level = s.level := rfl
@[simp] theorem afterSample_zcIn_mtimer : (afterSample .zcIn s).mtimer = s.mtimer := rfl
@[simp] theorem afterSample_zcIn_upc : (afterSample .zcIn s).upc = s.upc := rfl
@[simp] theorem afterSample_zcIn_triacN : (afterSample .zcIn s).triacN = s.triacN := rfl
@[simp] theorem afterSample_zcIn_led : (afterSample .zcIn s).led = s.led := rfl
@[simp] theorem afterSample_zcIn_trace : (afterSample .zcIn s).trace = s.trace := rfl
@[simp] theorem afterSample_zcIn_sc : (afterSample .zcIn s).sc = s.sc := rfl
@[simp] theorem afterSample_zcIn_refusalMark : (afterSample .zcIn s).refusalMark = s.refusalMark := rfl
@[simp] theorem afterSample_zcIn_rstIn : (afterSample .zcIn s).rstIn = s.rstIn := rfl
@[simp] theorem afterSample_zcIn_zcIn : (afterSample .zcIn s).zcIn = s.zcIn.tail := rfl
@[simp] theorem afterSample_zcIn_btnIn : (afterSample .zcIn s).btnIn = s.btnIn := rfl
@[simp] theorem afterSample_zcIn_hostIn : (afterSample .zcIn s).hostIn = s.hostIn := rfl
@[simp] theorem afterSample_zcIn_zcTaken : (afterSample .zcIn s).zcTaken = s.zcTaken + 1 := rfl
@[simp] theorem afterSample_zcIn_btnTaken : (afterSample .zcIn s).btnTaken = s.btnTaken := rfl
@[simp] theorem afterSample_zcIn_hostTaken : (afterSample .zcIn s).hostTaken = s.hostTaken := rfl
@[simp] theorem afterSample_zcIn_driver : (afterSample .zcIn s).driver = s.driver := rfl

@[simp] theorem afterSample_btnIn_cfg : (afterSample .btnIn s).cfg = s.cfg := rfl
@[simp] theorem afterSample_btnIn_cl : (afterSample .btnIn s).cl = s.cl := rfl
@[simp] theorem afterSample_btnIn_ph : (afterSample .btnIn s).ph = s.ph := rfl
@[simp] theorem afterSample_btnIn_zh : (afterSample .btnIn s).zh = s.zh := rfl
@[simp] theorem afterSample_btnIn_cnt : (afterSample .btnIn s).cnt = s.cnt := rfl
@[simp] theorem afterSample_btnIn_tgt : (afterSample .btnIn s).tgt = s.tgt := rfl
@[simp] theorem afterSample_btnIn_fired : (afterSample .btnIn s).fired = s.fired := rfl
@[simp] theorem afterSample_btnIn_zdone : (afterSample .btnIn s).zdone = s.zdone := rfl
@[simp] theorem afterSample_btnIn_caldone : (afterSample .btnIn s).caldone = s.caldone := rfl
@[simp] theorem afterSample_btnIn_sl : (afterSample .btnIn s).sl = s.sl := rfl
@[simp] theorem afterSample_btnIn_bh : (afterSample .btnIn s).bh = s.bh := rfl
@[simp] theorem afterSample_btnIn_press : (afterSample .btnIn s).press = s.press := rfl
@[simp] theorem afterSample_btnIn_ls : (afterSample .btnIn s).ls = s.ls := rfl
@[simp] theorem afterSample_btnIn_le : (afterSample .btnIn s).le = s.le := rfl
@[simp] theorem afterSample_btnIn_bon : (afterSample .btnIn s).bon = s.bon := rfl
@[simp] theorem afterSample_btnIn_boff : (afterSample .btnIn s).boff = s.boff := rfl
@[simp] theorem afterSample_btnIn_mode : (afterSample .btnIn s).mode = s.mode := rfl
@[simp] theorem afterSample_btnIn_level : (afterSample .btnIn s).level = s.level := rfl
@[simp] theorem afterSample_btnIn_mtimer : (afterSample .btnIn s).mtimer = s.mtimer := rfl
@[simp] theorem afterSample_btnIn_upc : (afterSample .btnIn s).upc = s.upc := rfl
@[simp] theorem afterSample_btnIn_triacN : (afterSample .btnIn s).triacN = s.triacN := rfl
@[simp] theorem afterSample_btnIn_led : (afterSample .btnIn s).led = s.led := rfl
@[simp] theorem afterSample_btnIn_trace : (afterSample .btnIn s).trace = s.trace := rfl
@[simp] theorem afterSample_btnIn_sc : (afterSample .btnIn s).sc = s.sc := rfl
@[simp] theorem afterSample_btnIn_refusalMark : (afterSample .btnIn s).refusalMark = s.refusalMark := rfl
@[simp] theorem afterSample_btnIn_rstIn : (afterSample .btnIn s).rstIn = s.rstIn := rfl
@[simp] theorem afterSample_btnIn_zcIn : (afterSample .btnIn s).zcIn = s.zcIn := rfl
@[simp] theorem afterSample_btnIn_btnIn : (afterSample .btnIn s).btnIn = s.btnIn.tail := rfl
@[simp] theorem afterSample_btnIn_hostIn : (afterSample .btnIn s).hostIn = s.hostIn := rfl
@[simp] theorem afterSample_btnIn_zcTaken : (afterSample .btnIn s).zcTaken = s.zcTaken := rfl
@[simp] theorem afterSample_btnIn_btnTaken : (afterSample .btnIn s).btnTaken = s.btnTaken + 1 := rfl
@[simp] theorem afterSample_btnIn_hostTaken : (afterSample .btnIn s).hostTaken = s.hostTaken := rfl
@[simp] theorem afterSample_btnIn_driver : (afterSample .btnIn s).driver = s.driver := rfl

@[simp] theorem afterHostRead_cfg : (afterHostRead s).cfg = s.cfg := rfl
@[simp] theorem afterHostRead_cl : (afterHostRead s).cl = s.cl := rfl
@[simp] theorem afterHostRead_ph : (afterHostRead s).ph = s.ph := rfl
@[simp] theorem afterHostRead_zh : (afterHostRead s).zh = s.zh := rfl
@[simp] theorem afterHostRead_cnt : (afterHostRead s).cnt = s.cnt := rfl
@[simp] theorem afterHostRead_tgt : (afterHostRead s).tgt = s.tgt := rfl
@[simp] theorem afterHostRead_fired : (afterHostRead s).fired = s.fired := rfl
@[simp] theorem afterHostRead_zdone : (afterHostRead s).zdone = s.zdone := rfl
@[simp] theorem afterHostRead_caldone : (afterHostRead s).caldone = s.caldone := rfl
@[simp] theorem afterHostRead_sl : (afterHostRead s).sl = s.sl := rfl
@[simp] theorem afterHostRead_bh : (afterHostRead s).bh = s.bh := rfl
@[simp] theorem afterHostRead_press : (afterHostRead s).press = s.press := rfl
@[simp] theorem afterHostRead_ls : (afterHostRead s).ls = s.ls := rfl
@[simp] theorem afterHostRead_le : (afterHostRead s).le = s.le := rfl
@[simp] theorem afterHostRead_bon : (afterHostRead s).bon = s.bon := rfl
@[simp] theorem afterHostRead_boff : (afterHostRead s).boff = s.boff := rfl
@[simp] theorem afterHostRead_mode : (afterHostRead s).mode = s.mode := rfl
@[simp] theorem afterHostRead_level : (afterHostRead s).level = s.level := rfl
@[simp] theorem afterHostRead_mtimer : (afterHostRead s).mtimer = s.mtimer := rfl
@[simp] theorem afterHostRead_upc : (afterHostRead s).upc = s.upc := rfl
@[simp] theorem afterHostRead_triacN : (afterHostRead s).triacN = s.triacN := rfl
@[simp] theorem afterHostRead_led : (afterHostRead s).led = s.led := rfl
@[simp] theorem afterHostRead_trace : (afterHostRead s).trace = s.trace := rfl
@[simp] theorem afterHostRead_sc : (afterHostRead s).sc = s.sc := rfl
@[simp] theorem afterHostRead_refusalMark : (afterHostRead s).refusalMark = s.refusalMark := rfl
@[simp] theorem afterHostRead_rstIn : (afterHostRead s).rstIn = s.rstIn := rfl
@[simp] theorem afterHostRead_zcIn : (afterHostRead s).zcIn = s.zcIn := rfl
@[simp] theorem afterHostRead_btnIn : (afterHostRead s).btnIn = s.btnIn := rfl
@[simp] theorem afterHostRead_hostIn : (afterHostRead s).hostIn = s.hostIn.tail := rfl
@[simp] theorem afterHostRead_zcTaken : (afterHostRead s).zcTaken = s.zcTaken := rfl
@[simp] theorem afterHostRead_btnTaken : (afterHostRead s).btnTaken = s.btnTaken := rfl
@[simp] theorem afterHostRead_hostTaken : (afterHostRead s).hostTaken = s.hostTaken + 1 := rfl
@[simp] theorem afterHostRead_driver : (afterHostRead s).driver = s.driver := rfl

@[simp] theorem afterRst_cfg : (afterRst s).cfg = s.cfg := rfl
@[simp] theorem afterRst_cl : (afterRst s).cl = s.cl := rfl
@[simp] theorem afterRst_ph : (afterRst s).ph = s.ph := rfl
@[simp] theorem afterRst_zh : (afterRst s).zh = s.zh := rfl
@[simp] theorem afterRst_cnt : (afterRst s).cnt = s.cnt := rfl
@[simp] theorem afterRst_tgt : (afterRst s).tgt = s.tgt := rfl
@[simp] theorem afterRst_fired : (afterRst s).fired = s.fired := rfl
@[simp] theorem afterRst_zdone : (afterRst s).zdone = s.zdone := rfl
@[simp] theorem afterRst_caldone : (afterRst s).caldone = s.caldone := rfl
@[simp] theorem afterRst_sl : (afterRst s).sl = s.sl := rfl
@[simp] theorem afterRst_bh : (afterRst s).bh = s.bh := rfl
@[simp] theorem afterRst_press : (afterRst s).press = s.press := rfl
@[simp] theorem afterRst_ls : (afterRst s).ls = s.ls := rfl
@[simp] theorem afterRst_le : (afterRst s).le = s.le := rfl
@[simp] theorem afterRst_bon : (afterRst s).bon = s.bon := rfl
@[simp] theorem afterRst_boff : (afterRst s).boff = s.boff := rfl
@[simp] theorem afterRst_mode : (afterRst s).mode = s.mode := rfl
@[simp] theorem afterRst_level : (afterRst s).level = s.level := rfl
@[simp] theorem afterRst_mtimer : (afterRst s).mtimer = s.mtimer := rfl
@[simp] theorem afterRst_upc : (afterRst s).upc = s.upc := rfl
@[simp] theorem afterRst_triacN : (afterRst s).triacN = s.triacN := rfl
@[simp] theorem afterRst_led : (afterRst s).led = s.led := rfl
@[simp] theorem afterRst_trace : (afterRst s).trace = s.trace := rfl
@[simp] theorem afterRst_sc : (afterRst s).sc = s.sc := rfl
@[simp] theorem afterRst_refusalMark : (afterRst s).refusalMark = s.refusalMark := rfl
@[simp] theorem afterRst_rstIn : (afterRst s).rstIn = s.rstIn.tail := rfl
@[simp] theorem afterRst_zcIn : (afterRst s).zcIn = s.zcIn := rfl
@[simp] theorem afterRst_btnIn : (afterRst s).btnIn = s.btnIn := rfl
@[simp] theorem afterRst_hostIn : (afterRst s).hostIn = s.hostIn := rfl
@[simp] theorem afterRst_zcTaken : (afterRst s).zcTaken = s.zcTaken := rfl
@[simp] theorem afterRst_btnTaken : (afterRst s).btnTaken = s.btnTaken := rfl
@[simp] theorem afterRst_hostTaken : (afterRst s).hostTaken = s.hostTaken := rfl
@[simp] theorem afterRst_driver : (afterRst s).driver = s.driver := rfl

@[simp] theorem advanceUpc_cfg : (advanceUpc s).cfg = s.cfg := rfl
@[simp] theorem advanceUpc_cl : (advanceUpc s).cl = s.cl := rfl
@[simp] theorem advanceUpc_ph : (advanceUpc s).ph = s.ph := rfl
@[simp] theorem advanceUpc_zh : (advanceUpc s).zh = s.zh := rfl
@[simp] theorem advanceUpc_cnt : (advanceUpc s).cnt = s.cnt := rfl
@[simp] theorem advanceUpc_tgt : (advanceUpc s).tgt = s.tgt := rfl
@[simp] theorem advanceUpc_fired : (advanceUpc s).fired = s.fired := rfl
@[simp] theorem advanceUpc_zdone : (advanceUpc s).zdone = s.zdone := rfl
@[simp] theorem advanceUpc_caldone : (advanceUpc s).caldone = s.caldone := rfl
@[simp] theorem advanceUpc_sl : (advanceUpc s).sl = s.sl := rfl
@[simp] theorem advanceUpc_bh : (advanceUpc s).bh = s.bh := rfl
@[simp] theorem advanceUpc_press : (advanceUpc s).press = s.press := rfl
@[simp] theorem advanceUpc_ls : (advanceUpc s).ls = s.ls := rfl
@[simp] theorem advanceUpc_le : (advanceUpc s).le = s.le := rfl
@[simp] theorem advanceUpc_bon : (advanceUpc s).bon = s.bon := rfl
@[simp] theorem advanceUpc_boff : (advanceUpc s).boff = s.boff := rfl
@[simp] theorem advanceUpc_mode : (advanceUpc s).mode = s.mode := rfl
@[simp] theorem advanceUpc_level : (advanceUpc s).level = s.level := rfl
@[simp] theorem advanceUpc_mtimer : (advanceUpc s).mtimer = s.mtimer := rfl
@[simp] theorem advanceUpc_upc : (advanceUpc s).upc = nextUpc s.cfg.schedule s.zdone s.upc := rfl
@[simp] theorem advanceUpc_triacN : (advanceUpc s).triacN = s.triacN := rfl
@[simp] theorem advanceUpc_led : (advanceUpc s).led = s.led := rfl
@[simp] theorem advanceUpc_trace : (advanceUpc s).trace = s.trace := rfl
@[simp] theorem advanceUpc_sc : (advanceUpc s).sc = s.sc := rfl
@[simp] theorem advanceUpc_refusalMark : (advanceUpc s).refusalMark = s.refusalMark := rfl
@[simp] theorem advanceUpc_rstIn : (advanceUpc s).rstIn = s.rstIn := rfl
@[simp] theorem advanceUpc_zcIn : (advanceUpc s).zcIn = s.zcIn := rfl
@[simp] theorem advanceUpc_btnIn : (advanceUpc s).btnIn = s.btnIn := rfl
@[simp] theorem advanceUpc_hostIn : (advanceUpc s).hostIn = s.hostIn := rfl
@[simp] theorem advanceUpc_zcTaken : (advanceUpc s).zcTaken = s.zcTaken := rfl
@[simp] theorem advanceUpc_btnTaken : (advanceUpc s).btnTaken = s.btnTaken := rfl
@[simp] theorem advanceUpc_hostTaken : (advanceUpc s).hostTaken = s.hostTaken := rfl
@[simp] theorem advanceUpc_driver : (advanceUpc s).driver = s.driver := rfl

end Sys2Proof.Machine
end

