-- ==== Sys2Proof/Laws/Ops.lean ====
section
/-! SUPPORT. What the shared operations behind the micro-operations can do, each said once. -/

namespace Sys2Proof.Machine

/-- The fire pulse as one update: two events, the gate back at inactive, FIRED, FIRE_COMP. -/
theorem firePulse_eq (s : State) : firePulse s =
    { s with triacN := true, trace := s.trace ++ [.fire s.sc s.cnt, .pulseEnd],
             fired := true, cnt := s.cnt + s.cfg.fireComp } := by
  simp [firePulse, emit, drivePin]

/-- The compensating delay as one update. -/
theorem compensate_eq (s : State) :
    compensate s = { s with trace := s.trace ++ [.compDelay s.sc] } := rfl

/-- One zero-cross sample as one update. -/
theorem sampleZeroCross_eq (s : State) : sampleZeroCross s =
    { s with zcIn := s.zcIn.tail, zcTaken := s.zcTaken + 1,
             zh := shiftIn s.zh (pinLevel .zcIn s) } := rfl

/-- The end of SEQ.STEP as one update. -/
theorem loadStep_eq (p : BlinkPattern) (s : State) :
    loadStep p s = { s with sl := scaledLevel s.level, bon := p.on, boff := p.off } := rfl

theorem fireDue_iff (s : State) :
    fireDue s = true ↔ s.fired = false ∧ s.cnt = s.tgt ∧ s.tgt ≠ s.cfg.tgtSentinel := by
  simp [fireDue, and_assoc]

theorem snapDue_iff (s : State) :
    snapDue s = true ↔ s.caldone = false ∧ trackedLength s < s.cl ∧
      trackedLength s = s.cfg.clSentinel - s.cfg.calibTicks := by
  simp [snapDue, and_assoc]

theorem exitDue_iff (s : State) : exitDue s = true ↔ s.zh = expPattern s.ph := by
  simp [exitDue]

theorem blinkOnDue_iff (s : State) :
    blinkOnDue s = true ↔ s.ls = false ∧ 0 < s.bon ∧ s.boff < s.le := by
  simp [blinkOnDue, and_assoc]

theorem blinkOffDue_iff (s : State) :
    blinkOffDue s = true ↔ s.ls = true ∧ 0 < s.boff ∧ s.bon < s.le := by
  simp [blinkOffDue, and_assoc]

/-- The two conditions of the blinker's switch exclude each other: LS selects one. -/
theorem blinkOffDue_of_on (s : State) (h : blinkOnDue s = true) : blinkOffDue s = false := by
  simp only [blinkOnDue, Bool.and_eq_true, Bool.not_eq_true'] at h
  simp [blinkOffDue, h.1.1]

/-- `{R[6:0], s}` bit by bit (20_memory.md rule R62): bit 0 is the new sample. -/
theorem shiftIn_getLsbD (r : Byte) (b : Bool) (k : Nat) (hk : k < 8) :
    (shiftIn r b).getLsbD k = if k = 0 then b else r.getLsbD (k - 1) := by
  rcases k with _ | k
  · simp [shiftIn]
  · have hk' : k < 8 := by omega
    simp [shiftIn, hk, BitVec.getLsbD_eq_getElem hk']

/-- EXP(PH) and EXP(¬PH) are each other's complement (41_cycle.md rule R135). -/
theorem expPattern_not (ph : Bool) : expPattern (!ph) = ~~~ expPattern ph := by
  cases ph <;> decide

theorem expPattern_not_ne (ph : Bool) : expPattern (!ph) ≠ expPattern ph := by
  cases ph <;> decide

theorem levelUp_toNat (l step m : Word32) :
    (levelUp l step m).toNat = min (l.toNat + step.toNat) m.toNat := by
  have := m.isLt
  simp only [levelUp, BitVec.toNat_ofNat]
  exact Nat.mod_eq_of_lt (by omega)

theorem levelUp_le (l step m : Word32) : levelUp l step m ≤ m := by
  rw [BitVec.le_def, levelUp_toNat]
  exact Nat.min_le_right _ _

theorem levelDown_le (l step : Word32) : levelDown l step ≤ l := by
  unfold levelDown
  split
  · exact BitVec.le_def.2 (Nat.zero_le _)
  · bv_omega

/-- The tracked length is at most 1 away from CL, and never wraps (41_cycle.md rule R130). -/
theorem trackedLength_near (s : State) :
    (trackedLength s).toNat ≤ s.cl.toNat + 1 ∧ s.cl.toNat ≤ (trackedLength s).toNat + 1 := by
  unfold trackedLength
  split
  · constructor <;> bv_omega
  · split <;> constructor <;> bv_omega

/-- What a harness hands over is read by the very next step (log 5). -/
theorem afterRst_handWord (w : OpWord) (s : State) :
    afterRst (handWord w s) = { s with driver := .harness [w], refusalMark := none } := rfl

end Sys2Proof.Machine
end

