-- ==== Sys2Proof/Laws/Exec.lean ====
section
/-! SUPPORT. What a micro-operation, a step and a list of micro-operations can do, each said once. -/

namespace Sys2Proof.Machine

/-- SEQ.STEP, if it answers a next state: some mode's level, timer and pattern, and nothing else. -/
theorem execSeqStep_next {s t : State} (h : execSeqStep s = .next t) :
    ∃ level mtimer p, t = loadStep p { s with level := level, mtimer := mtimer } ∧
      (s.level ≤ s.cfg.levelMax → level ≤ s.cfg.levelMax) := by
  unfold execSeqStep at h
  split at h <;> cases h
  · exact ⟨_, _, _, rfl, fun _ => levelUp_le _ _ _⟩
  · exact ⟨_, _, _, rfl, fun _ => BitVec.le_refl _⟩
  · exact ⟨_, _, _, rfl, fun hl => BitVec.le_trans (levelDown_le _ _) hl⟩
  · exact ⟨_, _, _, rfl, fun hl => BitVec.le_trans (levelDown_le _ _) hl⟩
  · exact ⟨_, _, _, rfl, fun _ => BitVec.le_def.2 (Nat.zero_le _)⟩
  · exact ⟨_, _, _, rfl, fun _ => levelUp_le _ _ _⟩
  · exact ⟨_, _, _, rfl, fun _ => BitVec.le_refl _⟩

/-- SEQ.NEXT, if it answers a next state: another defined mode and timer, and nothing else. -/
theorem execSeqNext_next {s t : State} (h : execSeqNext s = .next t) :
    ∃ mode mtimer, t = { s with mode := mode, mtimer := mtimer } ∧ mode ≠ .reserved := by
  unfold execSeqNext at h
  split at h <;> (try split at h) <;> (try split at h) <;> cases h <;>
    exact ⟨_, _, rfl, by simp_all⟩

/-- What no micro-operation touches: uPC, the straps, `rst`, the refusal mark and the driver. -/
theorem exec_keeps_environment {i : Instr} {s t : State} (h : exec i s = .next t) :
    t.upc = s.upc ∧ t.cfg = s.cfg ∧ t.rstIn = s.rstIn ∧ t.refusalMark = s.refusalMark ∧
      t.driver = s.driver := by
  cases i
  case seqStep => obtain ⟨_, _, _, rfl, -⟩ := execSeqStep_next h; exact ⟨rfl, rfl, rfl, rfl, rfl⟩
  case seqNext => obtain ⟨_, _, rfl, -⟩ := execSeqNext_next h; exact ⟨rfl, rfl, rfl, rfl, rfl⟩
  all_goals
    simp only [exec, execCurve, execCycBegin, execCycIter, execCycEnd, execBtnPoll, execBlink,
      execHostLoad, blinkSwitch, compensate_eq, firePulse_eq, sampleZeroCross_eq,
      Host.Outcome.next.injEq] at h
    subst h
    first
      | exact ⟨rfl, rfl, rfl, rfl, rfl⟩
      | (split <;> first
          | exact ⟨rfl, rfl, rfl, rfl, rfl⟩
          | (split <;> exact ⟨rfl, rfl, rfl, rfl, rfl⟩))

/-- A step that answers a next state: a held reset, the schedule's micro-operation with the uPC
update, or the harness's next word. -/
theorem step_cases {s t : State} (h : step s = .next t) :
    (rstLevel s = true ∧ t = holdReset s) ∨
    (rstLevel s = false ∧ admission s = none ∧
      ((∃ w i u, s.driver = .sequencer ∧ fetchWord s = some w ∧ decodeWord w = .ok i ∧
          exec i (afterRst s) = .next u ∧ t = advanceUpc u) ∨
       (∃ w rest i, s.driver = .harness (w :: rest) ∧ decodeWord w = .ok i ∧
          exec i { afterRst s with driver := .harness rest } = .next t))) := by
  unfold step at h
  split at h
  case isTrue hr => cases h; exact .inl ⟨hr, rfl⟩
  case isFalse hr =>
    have hr : rstLevel s = false := by simpa using hr
    split at h
    · cases h
    case h_2 ha =>
      refine .inr ⟨hr, ha, ?_⟩
      unfold runNext at h
      split at h
      case h_1 hd =>
        split at h
        case h_1 w hw =>
          unfold runWord at h
          split at h
          case h_1 i hi =>
            cases hu : exec i (afterRst s) <;> simp only [hu, advanceNext] at h <;> cases h
            exact .inl ⟨w, i, _, hd, hw, hi, hu, rfl⟩
          · cases h
        · cases h
      · cases h
      case h_3 w rest hd =>
        unfold runWord at h
        split at h
        case h_1 i hi => exact .inr ⟨w, rest, i, hd, hi, h⟩
        · cases h

/-- The encoder's word decodes to its micro-operation (30_encoding.md rules R82, R85). -/
@[simp] theorem decodeWord_encode (i : Instr) : decodeWord (encode i) = .ok i := by cases i <;> rfl

theorem runWord_encode (i : Instr) (s : State) : runWord (encode i) s = exec i s := by
  simp [runWord]

/-- What is run leaves the block as ready to run as it was: no micro-operation sets the mark or a strap. -/
theorem exec_keeps_admission {i : Instr} {s t : State} (h : exec i s = .next t) :
    admission t = admission s := by
  obtain ⟨-, hc, -, hm, -⟩ := exec_keeps_environment h
  simp [admission, hc, hm]

/-- CYC.ITER always answers a next state: the loop never stops by itself (60_exceptions.md rule R205). -/
theorem exec_cycIter_next (s : State) : ∃ t, exec .cycIter s = .next t := ⟨_, rfl⟩

/-- The harness's run of encoded micro-operations, one of which is reached and answers a next state. -/
theorem runTrace_encode_cons {i : Instr} {s t : State} (is : List Instr) (ha : admission s = none)
    (h : exec i s = .next t) :
    runTrace (encodeProgram (i :: is)) s = runTrace (encodeProgram is) t := by
  simp [encodeProgram, runTrace, ha, runWord_encode, h]

/-- Where every listed micro-operation answers a next state, the harness's run of their words ends there. -/
theorem runTrace_encode_of_runInstrs {is : List Instr} {s t : State} (ha : admission s = none)
    (h : runInstrs is s = .next t) : runTrace (encodeProgram is) s = t := by
  induction is generalizing s with
  | nil => cases h; rfl
  | cons i is ih =>
    simp only [runInstrs] at h
    cases hu : exec i s with
    | next u =>
      rw [runTrace_encode_cons is ha hu]
      exact ih (by rw [exec_keeps_admission hu, ha]) (by simpa [hu] using h)
    | fault f => exact nomatch f
    | refused r => simp [hu] at h

/-- One CYC.ITER of the loop's length: the last one, or one more than the rest takes. -/
theorem loopLength_succ {s t : State} (fuel : Nat) (h : exec .cycIter s = .next t) :
    loopLength (fuel + 1) s = if t.zdone then some 1 else (loopLength fuel t).map (· + 1) := by
  simp [loopLength, h]

/-- The loop's length is at least 1 and within the fuel. -/
theorem loopLength_bounds {fuel k : Nat} {s : State} (h : loopLength fuel s = some k) :
    1 ≤ k ∧ k ≤ fuel := by
  induction fuel generalizing s k with
  | zero => cases h
  | succ fuel ih =>
    obtain ⟨t, ht⟩ := exec_cycIter_next s
    rw [loopLength_succ fuel ht] at h
    split at h
    · cases h; omega
    · obtain ⟨j, hj, rfl⟩ := Option.map_eq_some_iff.1 h
      have := ih hj
      omega

/-- What `aroundLoop` can give: the entry alone where it is refused, else the loop with its length. -/
theorem aroundLoop_eq_some {fuel : Nat} {entry exit is : List Instr} {s : State}
    (h : aroundLoop fuel entry exit s = some is) :
    ((runTrace (encodeProgram entry) s).refusalMark ≠ none ∧ is = entry) ∨
    ((runTrace (encodeProgram entry) s).refusalMark = none ∧
      ∃ k, loopLength fuel (runTrace (encodeProgram entry) s) = some k ∧
        is = entry ++ List.replicate k .cycIter ++ exit) := by
  unfold aroundLoop at h
  dsimp only at h
  split at h
  case isTrue hm => cases h; exact .inl ⟨Option.isSome_iff_ne_none.1 hm, rfl⟩
  case isFalse hm =>
    obtain ⟨k, hk, rfl⟩ := Option.map_eq_some_iff.1 h
    exact .inr ⟨by simpa using hm, k, hk, rfl⟩

/-- A list of micro-operations in two parts. -/
theorem runInstrs_append (xs ys : List Instr) (s : State) :
    runInstrs (xs ++ ys) s =
      match runInstrs xs s with
      | .next t => runInstrs ys t
      | .fault f => .fault f
      | .refused r => .refused r := by
  induction xs generalizing s with
  | nil => rfl
  | cons i xs ih =>
    simp only [List.cons_append, runInstrs]
    cases exec i s with
    | next t => exact ih t
    | fault f => rfl
    | refused r => rfl

theorem runInstrs_append_next {xs ys : List Instr} {s t : State} (h : runInstrs xs s = .next t) :
    runInstrs (xs ++ ys) s = runInstrs ys t := by
  rw [runInstrs_append, h]

/-- A run of steps in two parts. -/
theorem runSteps_add (m n : Nat) (s : State) :
    runSteps (m + n) s =
      match runSteps m s with
      | .next t => runSteps n t
      | .fault f => .fault f
      | .refused r => .refused r := by
  induction m generalizing s with
  | zero => simp [runSteps]
  | succ m ih =>
    simp only [Nat.succ_add, runSteps]
    cases step s with
    | next t => exact ih t
    | fault f => rfl
    | refused r => rfl

theorem runSteps_add_next {m n : Nat} {s t : State} (h : runSteps m s = .next t) :
    runSteps (m + n) s = runSteps n t := by
  rw [runSteps_add, h]

/-- The machine's own runs are the host interface's. -/
theorem runSteps_eq_core_run (n : Nat) (s : State) : runSteps n s = Host.Core.run Sys2Proof.core n s := by
  induction n generalizing s with
  | zero => rfl
  | succ n ih =>
    simp only [runSteps, Host.Core.run, Sys2Proof.core]
    cases h : step s with
    | next t => exact ih t
    | fault f => rfl
    | refused r => rfl

end Sys2Proof.Machine
end

