-- ==== Sys2Proof/Laws/Mapper.lean ====
section
/-! SUPPORT. The multiplier's steps on exact numbers (40_mapper.md rule R100). -/

namespace Sys2Proof.Machine

/-- What one conditional addition adds. -/
def mulTerm (a bb : Word16) (k : Nat) : Nat := if a.getLsbD k then bb.toNat else 0

theorem mulTerm_le (a bb : Word16) (k : Nat) : mulTerm a bb k ≤ bb.toNat := by
  unfold mulTerm; split <;> omega

theorem shifted_le (b : Word16) : (b >>> 1).toNat ≤ 0x7FFF := by
  have := b.isLt
  simp only [BitVec.toNat_ushiftRight, Nat.shiftRight_eq_div_pow]
  omega

theorem mulAdd_toNat (a bb : Word16) (k : Nat) (acc : MulAcc)
    (hb : bb.toNat ≤ 0x7FFF) (hr : acc.r.toNat ≤ 0x7FFF) :
    (mulAdd a bb k acc).r.toNat = acc.r.toNat + mulTerm a bb k := by
  unfold mulAdd mulTerm
  split
  · simp only [BitVec.toNat_add]; omega
  · omega

/-- The accumulator never exceeds `b >> 1`, so no addition carries out (40_mapper.md rule R101 (d)). -/
theorem mulLoop_le (a bb : Word16) (hb : bb.toNat ≤ 0x7FFF) (k : Nat) :
    (mulLoop a bb k).r.toNat ≤ bb.toNat := by
  induction k with
  | zero => simp [mulLoop]
  | succ k ih =>
    have ht := mulTerm_le a bb k
    have ha := mulAdd_toNat a bb k (mulLoop a bb k) hb (by omega)
    simp only [mulLoop, BitVec.toNat_ushiftRight, Nat.shiftRight_eq_div_pow, ha]
    omega

/-- One step of the loop on exact numbers. -/
theorem mulLoop_succ_toNat (a bb : Word16) (hb : bb.toNat ≤ 0x7FFF) (k : Nat) :
    (mulLoop a bb (k + 1)).r.toNat = ((mulLoop a bb k).r.toNat + mulTerm a bb k) / 2 := by
  have hl := mulLoop_le a bb hb k
  have ha := mulAdd_toNat a bb k (mulLoop a bb k) hb (by omega)
  simp only [mulLoop, BitVec.toNat_ushiftRight, Nat.shiftRight_eq_div_pow, ha]

/-- The whole product on exact numbers: the last addition is not shifted. -/
theorem mulhi16_toNat (a b : Word16) :
    (mulhi16 a b).toNat = (mulLoop a (b >>> 1) 15).r.toNat + mulTerm a (b >>> 1) 15 := by
  have hb := shifted_le b
  have hl := mulLoop_le a (b >>> 1) hb 15
  exact mulAdd_toNat a (b >>> 1) 15 (mulLoop a (b >>> 1) 15) hb (by omega)

end Sys2Proof.Machine
end

