-- ==== Sys2Proof/Laws/PerInstr.lean ====
section
/-! SUPPORT. What holds of every micro-operation as syntax, one lemma for each constructor. -/

namespace Sys2Proof.Laws.Encoded

/-- The op word of `i` is well formed, decodes to `i`, and its MAJOR field is the position of `i` in
the table of 30_encoding.md rule R82. -/
def Statement (i : Instr) : Prop :=
  i.wellFormed = true ∧ OpWord.wellFormed (encode i) = true ∧ decodeWord (encode i) = .ok i ∧
  (OpWord.major (encode i)).toNat = Instr.all.idxOf i + 1

theorem curve : Statement .curve := by unfold Statement; decide
theorem cycBegin : Statement .cycBegin := by unfold Statement; decide
theorem cycIter : Statement .cycIter := by unfold Statement; decide
theorem cycEnd : Statement .cycEnd := by unfold Statement; decide
theorem btnPoll : Statement .btnPoll := by unfold Statement; decide
theorem blink : Statement .blink := by unfold Statement; decide
theorem seqStep : Statement .seqStep := by unfold Statement; decide
theorem seqNext : Statement .seqNext := by unfold Statement; decide
theorem hostLoad : Statement .hostLoad := by unfold Statement; decide

end Sys2Proof.Laws.Encoded
end

