-- ==== Sys2Proof/Tests/Slice0.lean ====
section
/-! SUPPORT. The model's own tests. Expected values are the spec's: the tables and vectors of
95_test_vectors.md (named at each test), and the encoding table of 30_encoding.md rule R82. Then, for
every statement with hypotheses, a state and operands that meet them. -/

namespace Sys2Proof.Tests

open Sys2Proof.Machine

/-- What `f` reads from the state that an outcome answers. -/
def got {α : Type} (f : State → α) : Host.Outcome State Fault Refusal → Option α
  | .next t => some (f t)
  | .fault _ => none
  | .refused _ => none

/-- The refusal an outcome answers. -/
def refusal : Host.Outcome State Fault Refusal → Option Refusal
  | .next _ => none
  | .fault _ => none
  | .refused r => some r

/-- An outcome is a next state. -/
def goesOn (o : Host.Outcome State Fault Refusal) : Bool := (got State.sc o).isSome

theorem exists_next {o : Host.Outcome State Fault Refusal} (h : goesOn o = true) : ∃ t, o = .next t := by
  cases o with
  | next t => exact ⟨t, rfl⟩
  | fault r => exact nomatch h
  | refused r => exact nomatch h

/-- The state after reset in ENGINE_ONLY. -/
def engine : State := State.resetWith { Config.tc with schedule := .engineOnly }

/-! ### Ill-formed words: one for each check, and the decoder refuses it (V-DEC-2 to V-DEC-4) -/

theorem test_sub_not_zero_ill_formed :
    OpWord.subIsZero 0x21 = false ∧ OpWord.wellFormed 0x21 = false ∧
    decodeWord 0x21 = .error .reservedOpWord ∧ decodeWord 0x3F = .error .reservedOpWord := by decide

theorem test_major_zero_ill_formed :
    OpWord.majorIsDefined 0x00 = false ∧ OpWord.wellFormed 0x00 = false ∧
    decodeWord 0x00 = .error .reservedOpWord := by decide

theorem test_major_above_nine_ill_formed :
    OpWord.majorIsDefined 0xA0 = false ∧ decodeWord 0xA0 = .error .reservedOpWord ∧
    OpWord.majorIsDefined 0xF0 = false ∧ decodeWord 0xF0 = .error .reservedOpWord := by decide

theorem test_every_instruction_well_formed :
    ∀ i ∈ Instr.all, i.wellFormed = true ∧ OpWord.wellFormed (encode i) = true := by decide

/-! ### Decoding: MAJOR in bits 7 to 4 and SUB in bits 3 to 0, written out from R80 and R82 (V-DEC-1) -/

theorem test_decode_curve : decodeTableWord 8 0b00010000 = some .curve := by decide
theorem test_decode_cycBegin : decodeTableWord 8 0b00100000 = some .cycBegin := by decide
theorem test_decode_cycIter : decodeTableWord 8 0b00110000 = some .cycIter := by decide
theorem test_decode_cycEnd : decodeTableWord 8 0b01000000 = some .cycEnd := by decide
theorem test_decode_btnPoll : decodeTableWord 8 0b01010000 = some .btnPoll := by decide
theorem test_decode_blink : decodeTableWord 8 0b01100000 = some .blink := by decide
theorem test_decode_seqStep : decodeTableWord 8 0b01110000 = some .seqStep := by decide
theorem test_decode_seqNext : decodeTableWord 8 0b10000000 = some .seqNext := by decide
theorem test_decode_hostLoad : decodeTableWord 8 0b10010000 = some .hostLoad := by decide

theorem test_mnemonic_names_its_instruction :
    Instr.all.map (fun i => Instr.ofMnemonic? i.mnemonic) = Instr.all.map some := by decide

/-- Program P1's second and third words, then a reserved one. -/
theorem test_decode_reads_one_word :
    decode [0x10, 0x20] = .ok (.curve, [0x20]) ∧
    decodeProgram [0x10, 0x20] = .ok [.curve, .cycBegin] ∧
    decodeProgram [0x10, 0x21] = .error .reservedOpWord := by decide

/-! ### One micro-operation at a time -/

/-- V-MUL-5 and V-MUL-6, and their additions. -/
theorem test_mulhi16 :
    mulhi16 0xAAAA 0x5555 = 0x38E2 ∧ mulhi16 0x5555 0xAAAA = 0x38E3 ∧ mulAdds 0xAAAA 0x5555 = 8 := by
  decide

/-- V-CURVE-S1, V-CURVE-6: a mid level, and a CL below MARGIN. -/
theorem test_curve :
    got State.tgt (exec .curve { State.reset with sl := 0x8000, cl := 0x05DC }) = some 0x03CE ∧
    got State.tgt (exec .curve { State.reset with sl := 0xC000, cl := 0x008F }) = some 0x777D := by decide

/-- V-CURVE-12, first column: level 0. -/
theorem test_curve_level_zero :
    got State.tgt (exec .curve { State.reset with sl := 0, cl := 0 }) = some 0xFFFF := by decide

/-- V-BEGIN-1. -/
theorem test_cycBegin_uncompensated :
    got (fun t => (t.cnt, t.fired, t.zdone, t.trace))
      (exec .cycBegin { State.reset with cnt := 0x05DC, fired := true, zdone := true }) =
      some (0, false, false, []) := by decide

/-- V-BEGIN-2. -/
theorem test_cycBegin_compensated :
    got (fun t => (t.cnt, t.fired, t.zdone, t.trace))
      (exec .cycBegin { State.reset with ph := true, cnt := 0x05DC, fired := true, zdone := true, sc := 3 }) =
      some (0, false, false, [.compDelay 3]) := by decide

/-- V-ITER-5: a pulse whose FIRE_COMP wraps CNT. -/
theorem test_cycIter_fires_and_wraps :
    got (fun t => (t.cnt, t.zh, t.fired, t.zdone, t.trace))
      (exec .cycIter { State.reset with cnt := 0xFFFE, tgt := 0xFFFE, zh := 0x01, ph := true, zcIn := [false] }) =
      some (0x000E, 0x02, true, false, [.fire 0 0xFFFE, .pulseEnd]) := by decide

/-- V-ITER-4, V-ITER-6: the sentinel never fires, and the exit on PH = 1. -/
theorem test_cycIter_sentinel_and_exit :
    got (fun t => (t.cnt, t.zh, t.fired, t.trace))
      (exec .cycIter { State.reset with cnt := 0xFFFF, tgt := 0xFFFF, zcIn := [true] }) =
      some (0, 0x01, false, []) ∧
    got (fun t => (t.cnt, t.zh, t.zdone))
      (exec .cycIter { State.reset with cnt := 3, tgt := 9, zh := 0x80, ph := true, zcIn := [false] }) =
      some (4, 0x00, true) := by decide

/-- V-END-5: the snap. -/
theorem test_cycEnd_snaps :
    got (fun t => (t.cl, t.caldone, t.ph, t.trace, t.sc))
      (exec .cycEnd { State.reset with cl := 0xFFFB, cnt := 0x05DC }) =
      some (0x05DC, true, true, [.tick 0], 1) := by decide

/-- V-END-7, V-END-8: up during calibration, and no second snap. -/
theorem test_cycEnd_tracks :
    got (fun t => (t.cl, t.caldone)) (exec .cycEnd { State.reset with cl := 0xFFFB, cnt := 0xFFFF }) =
      some (0xFFFC, false) ∧
    got (fun t => (t.cl, t.caldone))
      (exec .cycEnd { State.reset with cl := 0xFFFB, cnt := 0x05DC, caldone := true }) =
      some (0xFFFA, true) := by decide

/-- S2: the press 7 samples ago is out of the window, the one 6 samples ago is in it. -/
theorem test_btnPoll_window :
    got (fun t => (t.bh, t.press)) (exec .btnPoll { State.reset with bh := 0x80, btnIn := [true] }) =
      some (0x01, true) ∧
    got (fun t => (t.bh, t.press)) (exec .btnPoll { State.reset with bh := 0x40, btnIn := [true] }) =
      some (0x81, false) := by decide

/-- V-BLINK-12, V-BLINK-13: 254 is the largest parameter whose phase ends. -/
theorem test_blink_longest_phase :
    got (fun t => (t.ls, t.le, t.led, t.trace))
      (exec .blink { State.reset with ls := true, le := 0xFE, bon := 254, boff := 1 }) =
      some (false, 0, false, [.led false]) ∧
    got (fun t => (t.ls, t.le))
      (exec .blink { State.reset with ls := true, le := 0xFD, bon := 254, boff := 1 }) =
      some (true, 0xFE) := by decide

/-- V-BLINK-11: LE stays at 0xFF. -/
theorem test_blink_saturates :
    got (fun t => (t.ls, t.le))
      (exec .blink { State.reset with ls := false, le := 0xFF, bon := 1, boff := 254 }) =
      some (true, 0) := by decide

/-- V-STEP-2: a rising step clamps. -/
theorem test_seqStep_clamps_up :
    got (fun t => (t.level, t.sl, t.mtimer, t.bon, t.boff))
      (exec .seqStep { State.reset with level := 0x7FFFFFF0 }) =
      some (0x7FFFFFFF, 0xFFFE, 0, 1, 1) := by decide

/-- V-STEP-8: a falling step clamps, and the timer counts. -/
theorem test_seqStep_clamps_down :
    got (fun t => (t.level, t.sl, t.mtimer, t.bon, t.boff))
      (exec .seqStep { State.reset with mode := .rampDown, level := 0x05000000, mtimer := 1 }) =
      some (0, 0, 2, 2, 2) := by decide

/-- V-NEXT-3, V-NEXT-8: the press wins in RampUp and is ignored in RampDown. -/
theorem test_seqNext_press :
    got State.mode (exec .seqNext { State.reset with press := true, level := 0x7FFFFFFF }) =
      some .offRamp ∧
    got (fun t => (t.mode, t.mtimer))
      (exec .seqNext { State.reset with mode := .rampDown, press := true, mtimer := 1 }) =
      some (.rampDown, 1) := by decide

/-- V-NEXT-6, V-NEXT-13: the timed end of Steady, and Off-ramp at level 1. -/
theorem test_seqNext_ends :
    got (fun t => (t.mode, t.mtimer)) (exec .seqNext { State.reset with mode := .steady, mtimer := 3 }) =
      some (.rampDown, 0) ∧
    got State.mode (exec .seqNext { State.reset with mode := .offRamp, level := 1 }) =
      some .offRamp := by decide

/-- V-HOST-1. -/
theorem test_hostLoad :
    got (fun t => (t.sl, t.bon, t.boff)) (exec .hostLoad { engine with hostIn := [⟨0xFFFF, 1, 0⟩] }) =
      some (0xFFFF, 1, 0) := by decide

/-- A handed word is the one that the step after reset runs (30_encoding.md rule R89). -/
theorem test_handed_word_runs :
    got (fun t => (t.sc, t.ph, t.upc)) (step (State.reset.withFetchWord 8 0x40)) = some (1, true, 0) ∧
    refusal (step (State.reset.withFetchWord 8 0x41)) = some .reservedOpWord := by decide

/-- V-RST-1. -/
theorem test_reset_while_rst :
    got (fun t => (t.triacN, t.led, t.sc, t.trace, t.cl))
      (step { State.reset with rstIn := [true], triacN := false, led := true, sc := 7, trace := [.tick 6], cl := 9 }) =
      some (true, false, 0, [], 0xFFFF) ∧
    pressOut engine = some false ∧ pressOut State.reset = none := by decide

/-! ### Witnesses: states and operands that meet the statements' hypotheses -/

theorem test_witness_ProgramWordsRoundTrip : decodeProgram [0x30, 0x40] = .ok [.cycIter, .cycEnd] := by decide

/-- Both clauses of StepRunsScheduledWord: a step that goes on, and one that is refused. -/
theorem test_witness_StepRunsScheduledWord :
    (rstLevel State.reset = false ∧ admission State.reset = none ∧ State.reset.driver = .sequencer ∧
      fetchWord State.reset = some 0x70 ∧ decodeWord 0x70 = .ok .seqStep) ∧
    got State.level (exec .seqStep State.reset) = some 0x10000000 ∧
    fetchWord { State.reset with mode := .reserved } = some 0x70 ∧
    refusal (exec .seqStep { State.reset with mode := .reserved }) = some .reservedMode := by decide

theorem test_witness_StepRunsHarnessWord :
    let s : State := { State.reset with driver := .harness [0x10] }
    rstLevel s = false ∧ admission s = none ∧ s.driver = .harness [0x10] ∧ decodeWord 0x10 = .ok .curve ∧
    got State.upc (step s) = some 0 := by decide

theorem test_witness_HandedWordRuns :
    configInRange State.reset.cfg = true ∧ decodeTableWord 8 0x90 = some .hostLoad := by decide

theorem test_witness_NextStepIndex :
    (0 : StepIndex) ≠ 3 ∧ (0 : StepIndex) ≠ 6 ∧ (0 : StepIndex) ≠ 7 := by decide

/-- The zero-cross line rises at once: the loop from reset takes eight iterations. -/
def crossing (s : State) : State := { s with zcIn := List.replicate 8 true }

/-- Program P1's CYC.RUN part in small: eight CYC.ITERs end the loop, seven do not. -/
theorem test_witness_LinesExpandOnTheState :
    let s : State := crossing State.reset
    admission s = none ∧
    expandLine 8 .cycRun s = some (Instr.cycBegin :: (List.replicate 8 Instr.cycIter ++ [Instr.cycEnd])) ∧
    expandLine 7 .cycRun s = none ∧
    (runLine 8 .cycRun s).map (fun t => (t.sc, t.cnt, t.refusalMark)) = some (1, 8, none) := by decide +kernel

/-- A SEMICYCLE in MODE 7 stops at its first word, and the line after it changes nothing. -/
theorem test_line_refused :
    let s : State := { State.reset with mode := .reserved }
    (runLines 8 [.semicycle, .op .cycEnd] s).map (fun t => (t.sc, t.refusalMark)) =
      some (0, some .reservedMode) := by decide +kernel

/-- What a semicycle of eight iterations is in FULL and in ENGINE_ONLY (30_encoding.md rule R86). -/
def fullPass : List Instr :=
  [.seqStep, .curve, .cycBegin, .cycIter, .cycIter, .cycIter, .cycIter, .cycIter, .cycIter, .cycIter,
   .cycIter, .cycEnd, .blink, .btnPoll, .seqNext]

def enginePass : List Instr :=
  [.hostLoad, .curve, .cycBegin, .cycIter, .cycIter, .cycIter, .cycIter, .cycIter, .cycIter, .cycIter,
   .cycIter, .cycEnd, .blink, .btnPoll]

def fullStart : State := { crossing State.reset with btnIn := [false] }

def engineStart : State := { crossing engine with btnIn := [false], hostIn := [⟨0x8000, 1, 0⟩] }

theorem test_witness_FullPassIsSemicycle :
    (fullStart.rstIn = [] ∧ admission fullStart = none ∧ fullStart.driver = .sequencer ∧
      fullStart.cfg.schedule = .full ∧ fullStart.upc = 0) ∧
    (∃ t, runInstrs fullPass fullStart = .next t) ∧
    expandLine 8 .semicycle fullStart = some fullPass :=
  ⟨by decide, exists_next (by decide +kernel), by decide +kernel⟩

theorem test_witness_EnginePassIsSemicycle :
    (engineStart.rstIn = [] ∧ admission engineStart = none ∧ engineStart.driver = .sequencer ∧
      engineStart.cfg.schedule = .engineOnly ∧ engineStart.upc = 0) ∧
    (∃ t, runInstrs enginePass engineStart = .next t) ∧
    expandLine 8 .semicycle engineStart = some enginePass :=
  ⟨by decide, exists_next (by decide +kernel), by decide +kernel⟩

theorem test_witness_TraceRunIsSteps :
    let s : State := { State.reset with driver := .harness [] }
    s.rstIn = [] ∧ admission s = none ∧ (runTrace [0x70, 0x10] s).refusalMark = none ∧
    (runTrace [0x70, 0x00] s).refusalMark = some .reservedOpWord := by decide

/-- Each kind of reserved word, and a harness about to run it. -/
theorem test_witness_ReservedWordRefused :
    let s : State := { State.reset with driver := .harness [0x21] }
    (0x21 : OpWord) &&& 0x0F ≠ 0 ∧ (0x00 : OpWord) >>> 4 = 0 ∧ (0x0A : OpWord) ≤ (0xA0 : OpWord) >>> 4 ∧
    admission s = none ∧ rstLevel s = false ∧ s.driver = .harness [0x21] ∧
    scheduleWord .engineOnly 6 = some 0x50 := by decide

theorem test_witness_RefusalMarkSticks :
    let s : State := { State.reset with refusalMark := some .reservedMode }
    s.refusalMark = some .reservedMode ∧ rstLevel s = false ∧ rstLevel { s with rstIn := [true] } = true := by
  decide

theorem test_witness_ReservedModeRefused :
    ({ State.reset with mode := .reserved } : State).mode = .reserved ∧
    admission { State.reset with mode := .reserved } = none ∧
    State.reset.mode ≠ .reserved ∧ got State.mode (exec .seqNext State.reset) = some .rampUp := by decide

/-- The straps of TC as numbers (95_test_vectors.md section 0), with LEVEL_MAX and the last blink pattern
at will. -/
def numbers (levelMax : Nat) (last : BlinkNumbers) : StrapNumbers where
  margin := 0x90
  fireComp := 15
  pulseUs := 100
  compDelayUs := 63
  compPhase := 1
  clSentinel := 0xFFFF
  tgtSentinel := 0xFFFF
  calibTicks := 5
  btnPattern := 1
  levelMax := levelMax
  stepUp := 0x10000000
  stepDown := 0x08000000
  stepOff := 0x20000000
  stepOn := 0x40000000
  steadySemicycles := 3
  rampDownSemicycles := 2
  blink := [⟨1, 1⟩, ⟨1, 0⟩, ⟨2, 2⟩, ⟨1, 1⟩, ⟨3, 5⟩, ⟨1, 1⟩, last]
  schedule := .full
  tIterNs := 6667

/-- In range at the bounds (a ramp step equal to LEVEL_MAX, a blink parameter of 254) and just outside. -/
theorem test_witness_OutOfRangeStrapsRefused :
    got State.cfg (powerOn (numbers 0x7FFFFFFF ⟨1, 0⟩)) = some Config.tc ∧
    (got State.mode (powerOn (numbers 0x40000000 ⟨254, 254⟩))).isSome = true ∧
    refusal (powerOn (numbers 0x3FFFFFFF ⟨1, 0⟩)) = some .configOutOfRange ∧
    refusal (powerOn (numbers 0x7FFFFFFF ⟨255, 0⟩)) = some .configOutOfRange ∧
    refusal (powerOn { numbers 0x7FFFFFFF ⟨1, 0⟩ with margin := 65536 }) = some .configOutOfRange ∧
    configInRange { Config.tc with steadySemicycles := 0 } = false ∧
    rstLevel (State.resetWith { Config.tc with steadySemicycles := 0 }) = false ∧
    (State.resetWith { Config.tc with steadySemicycles := 0 }).refusalMark = none := by decide

theorem test_witness_ResetOverridesEverything :
    rstLevel { State.reset with rstIn := [true], cnt := 5 } = true := by decide

theorem test_witness_FirstPassFromReset :
    configInRange Config.tc = true ∧ Config.tc.schedule = .full ∧ Config.tc.compPhase = true := by decide

/-- Reset meets the invariant, under either driver, and steps on. -/
theorem test_witness_EveryStepKeepsInvariant :
    State.reset.Inv ∧ (got State.upc (step State.reset)).isSome = true ∧
    ({ State.reset with driver := .harness [0x30], zcIn := [true] } : State).Inv ∧
    (got State.upc (step { State.reset with driver := .harness [0x30], zcIn := [true] })).isSome = true :=
  ⟨⟨⟨rfl, by decide, by decide⟩, fun _ => ⟨by decide, by decide, by decide, by decide⟩⟩, by decide,
    ⟨⟨rfl, by decide, by decide⟩, fun h => nomatch h⟩, by decide⟩

/-- Also the witness of TraceOnlyGrows. -/
theorem test_witness_StepKeepsStraps :
    rstLevel State.reset = false ∧ (got State.cfg (step State.reset)).isSome = true := by decide

/-- From a state that lists its samples, every micro-operation answers a next state. -/
theorem test_witness_OnlyListedWriters :
    let s : State := { State.reset with zcIn := [true], btnIn := [true], hostIn := [⟨1, 2, 3⟩] }
    ∀ i ∈ Instr.all, (got State.sc (exec i s)).isSome = true := by decide

/-- Two states that differ in LS, LE, `led` and Led events only: one that goes on, one that stops. -/
theorem test_witness_BlinkerInfluencesNothing :
    let s : State := { State.reset with trace := [.tick 0, .led true] }
    let u : State := { State.reset with ls := true, le := 9, led := true, trace := [.led false, .tick 0] }
    let notLed (e : Event) : Bool := e != .led true && e != .led false
    { s with ls := false, le := 0, led := false, trace := s.trace.filter notLed } =
      { u with ls := false, le := 0, led := false, trace := u.trace.filter notLed } ∧
    (got State.upc (step s)).isSome = true ∧
    refusal (step { s with refusalMark := some .reservedMode }) = some .reservedMode := by decide

/-- Where the clauses of TargetRange meet: CL − MARGIN = 2 and = 1. -/
theorem test_witness_TargetRange :
    (0xFFFF : Word16) ≠ 0 ∧ 2 ≤ ((0x0092 : Word16) - Config.tc.margin).toNat ∧
    ((0x0091 : Word16) - Config.tc.margin).toNat ≤ 1 := by decide

theorem test_witness_BrighterFiresEarlier :
    Config.tc.tgtSentinel = 0xFFFF ∧ (0 : Word16) ≤ 1 ∧ (0xFFFE : Word16) ≤ 0xFFFF := by decide

theorem test_witness_FiresOnceAtTarget :
    ({ State.reset with tgt := 0xFFFE } : State).tgt ≠ State.reset.cfg.tgtSentinel ∧
    ({ State.reset with tgt := 0 } : State).tgt ≠ State.reset.cfg.tgtSentinel := by decide

theorem test_witness_LevelZeroNeverFires : State.reset.sl = 0 := by decide

/-- A loop start with `zc_in` as listed. -/
def looping (zc : List Bool) : State := { State.reset with upc := 3, zcIn := zc }

theorem looping_running (zc : List Bool) : (looping zc).Running :=
  ⟨fun _ h => (List.not_mem_nil h).elim, rfl, rfl⟩

/-- The eight samples at once, and after one of the other level. -/
theorem test_witness_LoopEndsUnderEA1 :
    (looping (List.replicate 8 true)).Running ∧ (looping (List.replicate 8 true)).upc = 3 ∧
    (looping (List.replicate 8 true)).zdone = false ∧
    exitSuppliedAt (looping (List.replicate 8 true)) 0 ∧
    exitSuppliedAt (looping (false :: List.replicate 8 true)) 1 :=
  ⟨looping_running _, rfl, rfl, by unfold exitSuppliedAt; decide, by unfold exitSuppliedAt; decide⟩

/-- The boundary: left in the 8th iteration. -/
theorem test_witness_LoopLeftAfterEightSamples :
    let s := looping (List.replicate 8 true)
    s.Running ∧ s.upc = 3 ∧ s.zdone = false ∧ s.zh = expPattern (!s.ph) ∧
    (∀ m < 8, got State.upc (runSteps m s) = some 3) ∧ got State.upc (runSteps 8 s) = some 4 :=
  ⟨looping_running _, rfl, rfl, rfl, by decide, by decide⟩

/-- Nine samples with one of the wrong level in the middle: no eight in a row. -/
theorem test_witness_MissingZeroCrossHangs :
    let s := looping (List.replicate 4 true ++ [false] ++ List.replicate 4 true)
    s.Running ∧ s.upc = 3 ∧ s.zdone = false ∧ s.zh = expPattern (!s.ph) ∧
    (∀ k, k + 8 ≤ 9 → ¬ exitSuppliedAt s k) := by
  refine ⟨looping_running _, rfl, rfl, rfl, fun k hk h => ?_⟩
  have h4 := h (4 - k) (by omega)
  rw [show k + (4 - k) = 4 by omega] at h4
  exact absurd h4 (by decide)

/-- Tracking, and the snap of V-END-12. -/
theorem test_witness_LengthMovesByOne :
    got State.caldone (exec .cycEnd { State.reset with cl := 5, cnt := 9 }) = some false ∧
    got State.caldone (exec .cycEnd { State.reset with cl := 0xFFFB, cnt := 0xFFFA }) = some true := by decide

theorem test_witness_LengthConverges :
    let s : State := { State.reset with caldone := true, cl := 5 }
    s.caldone = true ∧ s.cl ≤ (9 : Word16) ∧ ¬ s.cl ≤ (4 : Word16) := by decide

theorem test_witness_LengthStaysAmongCounts :
    let s : State := { State.reset with caldone := true, cl := 1500 }
    s.caldone = true ∧ (1499 : Word16) ≤ s.cl ∧ s.cl ≤ (1501 : Word16) ∧
    (∀ c ∈ ([1499, 1501, 1500] : List Word16), 1499 ≤ c ∧ c ≤ 1501) :=
  ⟨rfl, by decide, by decide, by simp⟩

/-- The five counts of program P2's calibration, and the largest count the premise allows. -/
theorem test_witness_CalibrationSnaps :
    State.reset.caldone = false ∧ State.reset.cl = State.reset.cfg.clSentinel ∧
    ([1508, 1500, 1500, 0xFFFA] : List Word16).length + 1 = State.reset.cfg.calibTicks.toNat ∧
    (∀ c ∈ ([1508, 1500, 1500, 0xFFFA] : List Word16) ++ [1500],
      c.toNat + State.reset.cfg.calibTicks.toNat ≤ State.reset.cfg.clSentinel.toNat) := by
  simp [State.reset, State.resetWith, Config.tc]

theorem test_witness_PressIsAFreshEdge :
    let s : State := { State.reset with btnIn := List.replicate 7 false ++ [true] }
    s.bh = 0x00 ∧ s.cfg.btnPattern = 0x01 ∧ s.btnIn = List.replicate 7 false ++ [true] := by decide

theorem test_witness_HeldPressReportedOnce :
    let s : State := { State.reset with bh := 0x01, btnIn := [true, true, true] }
    s.bh = 0x01 ∧ s.cfg.btnPattern = 0x01 ∧ s.btnIn = List.replicate (2 + 1) true := by decide

/-- The bounds of BlinkPhaseLengths: 1 and 254, on and off. -/
theorem test_witness_BlinkPhaseLengths :
    let s : State := { State.reset with bon := 254, boff := 1, ls := true }
    1 ≤ s.bon ∧ 1 ≤ s.boff ∧ s.bon ≤ 254 ∧ s.boff ≤ 254 ∧ s.le = 0 ∧ s.ls = true ∧
    ({ s with bon := 1, boff := 254, ls := false } : State).ls = false := by decide

/-- One state for each clause of BlinkPermanentPhases. -/
theorem test_witness_BlinkPermanentPhases :
    (0 < ({ State.reset with bon := 1 } : State).bon ∧ State.reset.boff = 0) ∧
    (State.reset.bon = 0 ∧ 0 < ({ State.reset with boff := 1 } : State).boff) ∧
    (State.reset.bon = 0 ∧ State.reset.boff = 0) ∧
    (({ State.reset with ls := true, bon := 255 } : State).ls = true ∧
      ({ State.reset with ls := true, bon := 255 } : State).bon = 255) ∧
    (State.reset.ls = false ∧ ({ State.reset with boff := 255 } : State).boff = 255) := by decide

/-- SeqStepEffect's hypothesis in each of the seven modes, at the boundary levels. -/
theorem test_witness_SeqStepEffect :
    [(Mode.rampUp, got State.level (exec .seqStep { State.reset with level := 0x6FFFFFFF })),
     (Mode.steady, got State.level (exec .seqStep { State.reset with mode := .steady, mtimer := 0xFFFFFFFF })),
     (Mode.rampDown, got State.level (exec .seqStep { State.reset with mode := .rampDown, level := 0x08000000 })),
     (Mode.offRamp, got State.level (exec .seqStep { State.reset with mode := .offRamp, level := 0x20000001 })),
     (Mode.off, got State.level (exec .seqStep { State.reset with mode := .off, level := 5 })),
     (Mode.onRamp, got State.level (exec .seqStep { State.reset with mode := .onRamp })),
     (Mode.on, got State.level (exec .seqStep { State.reset with mode := .on }))] =
    [(.rampUp, some 0x7FFFFFFF), (.steady, some 0x7FFFFFFF), (.rampDown, some 0), (.offRamp, some 1),
     (.off, some 0), (.onRamp, some 0x40000000), (.on, some 0x7FFFFFFF)] := by decide

theorem test_witness_SeqNextEffect :
    State.reset.mode ≠ .reserved ∧ ({ State.reset with mode := .on } : State).mode ≠ .reserved ∧
    ({ State.reset with mode := .reserved } : State).mode = .reserved := by decide

theorem test_witness_LevelStepsClamp :
    (0x7FFFFFFF : Word32) ≤ 0x7FFFFFFF ∧ ¬ (0x80000000 : Word32) ≤ 0x7FFFFFFF := by decide

theorem test_witness_ScaledLevelReach :
    (0x7FFFFFFF : Word32) ≤ 0x7FFFFFFF ∧ (0x0000FFFF : Word32) < 0x00010000 := by decide

theorem test_witness_RampsAreLinear :
    let s : State := { State.reset with level := 0x7FFFFFFF }
    s.level ≤ s.cfg.levelMax ∧ s.mode = .rampUp ∧ ({ s with mode := .onRamp } : State).mode = .onRamp ∧
    ({ s with mode := .offRamp } : State).mode = .offRamp ∧
    ({ s with mode := .rampDown } : State).mode = .rampDown := by decide

theorem test_witness_NoOvershootAfterPress :
    let s : State := { State.reset with mode := .offRamp, level := 0x30000000 }
    ((s.mode = .offRamp ∨ s.mode = .off) ∧ s.press = false) ∧
    ({ s with mode := .rampUp, press := true } : State).mode = .rampUp ∧
    ({ s with mode := .rampUp, press := true } : State).press = true := by decide

/-- TC's durations, and the run's two ends. -/
theorem test_witness_TimedModesLast :
    let s : State := { State.reset with mode := .steady }
    s.mtimer = 0 ∧ s.mode = .steady ∧ s.press = false ∧ 1 ≤ s.cfg.steadySemicycles ∧
    3 ≤ s.cfg.steadySemicycles.toNat ∧
    ({ s with mode := .rampDown } : State).mode = .rampDown ∧ 1 ≤ s.cfg.rampDownSemicycles ∧
    2 ≤ s.cfg.rampDownSemicycles.toNat := by decide

theorem test_witness_EngineOnlyWithoutSequencer :
    let s : State := { engine with hostIn := [⟨1, 2, 3⟩] }
    s.cfg.schedule = .engineOnly ∧ s.driver = .sequencer ∧ rstLevel s = false ∧
    (got State.upc (step s)).isSome = true := by decide

theorem test_witness_OffNeverFires : ({ State.reset with mode := .off } : State).mode = .off := by decide

end Sys2Proof.Tests
end

section
/-! SUPPORT. Each micro-operation that answers a next state as one update of the state it ran on: what
the update writes, and with what, said once. -/

namespace Sys2Proof.Machine

variable {s t : State}

/-- CYC.BEGIN clears CNT, FIRED and ZDONE, and only appends to the trace (41_cycle.md rule R123). -/
theorem exec_cycBegin_update (h : exec .cycBegin s = .next t) :
    ∃ es, t = { s with cnt := 0, fired := false, zdone := false, trace := s.trace ++ es } := by
  simp only [exec, execCycBegin, compensate_eq] at h
  split at h <;> cases h
  · exact ⟨_, rfl⟩
  · exact ⟨[], by simp⟩

/-- CYC.ITER shifts one sample into ZH and makes ZDONE the exit test of the new ZH; the gate is left
inactive, or as it was without a pulse (41_cycle.md rules R124 to R128). -/
theorem exec_cycIter_update (h : exec .cycIter s = .next t) :
    ∃ gate fired cnt es, (gate = true ∨ gate = s.triacN) ∧
      t = { s with triacN := gate, fired := fired, cnt := cnt, trace := s.trace ++ es,
                   zcIn := s.zcIn.tail, zcTaken := s.zcTaken + 1,
                   zh := shiftIn s.zh (pinLevel .zcIn s),
                   zdone := s.zdone || shiftIn s.zh (pinLevel .zcIn s) == expPattern s.ph } := by
  simp only [exec, execCycIter, firePulse_eq, sampleZeroCross_eq] at h
  split at h <;> cases h
  · exact ⟨true, _, _, _, .inl rfl, rfl⟩
  · exact ⟨s.triacN, s.fired, s.cnt + 1, [], .inr rfl, by simp [exitDue]⟩

/-- CYC.END toggles PH, counts the semicycle and writes CL by one of two rules: the one-time snap to
CNT, or the tracking (41_cycle.md rules R130 to R132). -/
theorem exec_cycEnd_update (h : exec .cycEnd s = .next t) :
    ∃ cl caldone,
      ((caldone = true ∧ s.caldone = false ∧ cl = s.cnt) ∨
        (caldone = s.caldone ∧ cl = trackedLength s)) ∧
      t = { s with cl := cl, caldone := caldone, ph := !s.ph, sc := s.sc + 1,
                   trace := s.trace ++ [.tick s.sc] } := by
  simp only [exec, execCycEnd] at h
  split at h <;> cases h
  case isTrue hs =>
    obtain ⟨hc, -, -⟩ := (snapDue_iff s).1 hs
    exact ⟨_, _, .inl ⟨rfl, hc, rfl⟩, rfl⟩
  case isFalse => exact ⟨_, _, .inr ⟨rfl, rfl⟩, rfl⟩

/-- BLINK writes LS and LE, and drives and records the new LS (43_blink.md rule R160). -/
theorem exec_blink_update (h : exec .blink s = .next t) :
    ∃ ls le, t = { s with ls := ls, le := le, led := ls, trace := s.trace ++ [.led ls] } := by
  simp only [exec, execBlink, blinkSwitch] at h
  split at h
  · cases h; exact ⟨_, _, rfl⟩
  · split at h <;> cases h <;> exact ⟨_, _, rfl⟩

end Sys2Proof.Machine
end

section
/-! PROOFS. What the micro-operations and a step leave unchanged (10_state.md section 2). -/

namespace Sys2Proof.Machine

/-- Settles O21: each micro-operation's single update names every field it writes. -/
theorem onlyListedWriters : Obligations.OnlyListedWriters := by
  unfold Obligations.OnlyListedWriters
  intro i s t h
  cases i
  case curve => cases h; simp
  case cycBegin => obtain ⟨_, rfl⟩ := exec_cycBegin_update h; simp
  case cycIter => obtain ⟨_, _, _, _, -, rfl⟩ := exec_cycIter_update h; simp
  case cycEnd => obtain ⟨_, _, -, rfl⟩ := exec_cycEnd_update h; simp
  case btnPoll => cases h; simp
  case blink => obtain ⟨_, _, rfl⟩ := exec_blink_update h; simp
  case seqStep => obtain ⟨_, _, _, rfl, -⟩ := execSeqStep_next h; simp [loadStep_eq]
  case seqNext => obtain ⟨_, _, rfl, -⟩ := execSeqNext_next h; simp
  case hostLoad => cases h; simp

/-- A micro-operation only appends to the output trace (10_state.md rule R42). -/
theorem exec_trace_grows {i : Instr} {s t : State} (h : exec i s = .next t) :
    ∃ es, t.trace = s.trace ++ es := by
  cases i
  case cycBegin => obtain ⟨es, rfl⟩ := exec_cycBegin_update h; exact ⟨es, rfl⟩
  case cycIter => obtain ⟨_, _, _, es, -, rfl⟩ := exec_cycIter_update h; exact ⟨es, rfl⟩
  case cycEnd => obtain ⟨_, _, -, rfl⟩ := exec_cycEnd_update h; exact ⟨_, rfl⟩
  case blink => obtain ⟨_, _, rfl⟩ := exec_blink_update h; exact ⟨_, rfl⟩
  all_goals
    obtain ⟨-, -, -, -, -, -, -, -, -, -, -, htrace, -⟩ := onlyListedWriters _ s t h
    exact ⟨[], by simp [htrace]⟩

/-- Settles O22: with `rst` low a step is one micro-operation, which only appends. -/
theorem traceOnlyGrows : Obligations.TraceOnlyGrows := by
  unfold Obligations.TraceOnlyGrows
  intro s t hrst h
  obtain ⟨hr, -⟩ | ⟨-, -, ⟨w, i, u, -, -, -, hu, rfl⟩ | ⟨w, rest, i, -, -, ht⟩⟩ := step_cases h
  · simp [hrst] at hr
  · simpa using exec_trace_grows hu
  · simpa using exec_trace_grows ht

/-- Settles O20: the straps survive a held reset, every micro-operation and the uPC update. -/
theorem stepKeepsStraps : Obligations.StepKeepsStraps := by
  unfold Obligations.StepKeepsStraps
  intro s t h
  obtain ⟨-, rfl⟩ | ⟨-, -, ⟨w, i, u, -, -, -, hu, rfl⟩ | ⟨w, rest, i, -, -, ht⟩⟩ := step_cases h
  · rfl
  · obtain ⟨-, hcfg, -⟩ := exec_keeps_environment hu
    exact hcfg
  · obtain ⟨-, hcfg, -⟩ := exec_keeps_environment ht
    exact hcfg

/-- Settles O37: only CYC.END writes CL and CALDONE, by the snap or by the tracking of ±1. -/
theorem lengthMovesByOne : Obligations.LengthMovesByOne := by
  unfold Obligations.LengthMovesByOne
  intro i s t h
  by_cases hi : i = .cycEnd
  case pos =>
    subst hi
    obtain ⟨cl, caldone, ⟨rfl, hs, rfl⟩ | ⟨rfl, rfl⟩, rfl⟩ := exec_cycEnd_update h
    · simp [hs]
    · simpa using trackedLength_near s
  case neg =>
    obtain ⟨hfixed, -⟩ := onlyListedWriters i s t h
    obtain ⟨hcl, -, hcaldone, -⟩ := hfixed hi
    simp [hcl, hcaldone]

end Sys2Proof.Machine
end

section
/-! PROOFS. The invariant of the block: reset meets it and every step keeps it (10_state.md rules R34,
R35, R41; 41_cycle.md rules R128, R135). -/

namespace Sys2Proof.Machine

variable {s t : State}

/-! ### The three stages of a pass -/

/-- Between two loops only the last semicycle's pattern matters. -/
theorem onSchedule_between_loops (hused : s.cfg.schedule = .engineOnly → s.upc ≠ 7)
    (h3 : s.upc ≠ 3) (h4 : s.upc ≠ 4) (hzh : s.zh = expPattern (!s.ph)) : s.OnSchedule where
  stepUsed := hused
  historyOfLast _ _ := hzh
  loopOpen h := absurd h h3
  loopClosed h := absurd h h4

theorem onSchedule_in_loop (h3 : s.upc = 3) (hdone : s.zdone = false)
    (hzh : s.zh ≠ expPattern s.ph) : s.OnSchedule where
  stepUsed _ := by simp [h3]
  historyOfLast h _ := absurd h3 h
  loopOpen _ := ⟨hdone, hzh⟩
  loopClosed h := by simp [h3] at h

theorem onSchedule_at_end (h4 : s.upc = 4) (hdone : s.zdone = true)
    (hzh : s.zh = expPattern s.ph) : s.OnSchedule where
  stepUsed _ := by simp [h4]
  historyOfLast _ h := absurd h4 h
  loopOpen h := by simp [h4] at h
  loopClosed _ := ⟨hdone, hzh⟩

/-! ### Where the schedule puts the three micro-operations of the timing loop -/

/-- In either schedule CYC.BEGIN, CYC.ITER and CYC.END stand at the steps 2, 3 and 4, and no
other step writes ZH or PH (30_encoding.md rule R86). -/
theorem scheduled_instr_cases {sch : Schedule} {u : StepIndex} {w : OpWord} {i : Instr}
    (hw : scheduleWord sch u = some w) (hi : decodeWord w = .ok i) :
    (u = 2 ∧ i = .cycBegin) ∨ (u = 3 ∧ i = .cycIter) ∨ (u = 4 ∧ i = .cycEnd) ∨
    ((u ≠ 2 ∧ u ≠ 3 ∧ u ≠ 4) ∧ i ≠ .cycIter ∧ i ≠ .cycEnd) := by
  have hsteps : ∀ u : StepIndex, u = 0 ∨ u = 1 ∨ u = 2 ∨ u = 3 ∨ u = 4 ∨ u = 5 ∨ u = 6 ∨ u = 7 := by
    decide
  obtain rfl | rfl | rfl | rfl | rfl | rfl | rfl | rfl := hsteps u <;> cases sch <;> cases hw <;>
    cases hi <;> decide

/-- From a step that is not 2, 3 or 4 uPC enters neither the loop nor CYC.END. -/
theorem nextUpc_outside_loop (sch : Schedule) (z : Bool) (u : StepIndex)
    (hu : u ≠ 2 ∧ u ≠ 3 ∧ u ≠ 4) : nextUpc sch z u ≠ 3 ∧ nextUpc sch z u ≠ 4 := by
  cases sch <;> revert z u <;> decide

/-- From a used step of ENGINE_ONLY uPC never becomes 7 (30_encoding.md rule R87). -/
theorem nextUpc_stays_used {sch : Schedule} {u : StepIndex} (z : Bool)
    (hu : sch = .engineOnly → u ≠ 7) (hsch : sch = .engineOnly) : nextUpc sch z u ≠ 7 := by
  subst hsch
  replace hu := hu rfl
  revert z u; decide

/-! ### What keeps the invariant -/

/-- Every micro-operation keeps the part of the invariant that does not speak of the schedule. -/
theorem exec_keeps_sound {i : Instr} (hs : s.Sound) (h : exec i s = .next t) : t.Sound := by
  obtain ⟨hgate, hlevel, hmode⟩ := hs
  cases i
  case cycIter =>
    obtain ⟨gate, _, _, _, rfl | rfl, rfl⟩ := exec_cycIter_update h
    · exact ⟨rfl, hlevel, hmode⟩
    · exact ⟨hgate, hlevel, hmode⟩
  case seqStep =>
    obtain ⟨_, _, _, rfl, hle⟩ := execSeqStep_next h
    exact ⟨hgate, hle hlevel, hmode⟩
  case seqNext =>
    obtain ⟨_, _, rfl, hdefined⟩ := execSeqNext_next h
    exact ⟨hgate, hlevel, hdefined⟩
  all_goals
    obtain ⟨-, hiter, -, -, -, -, -, -, hnext, hstep, -⟩ := onlyListedWriters _ s t h
    obtain ⟨-, -, -, htriac⟩ := hiter (by simp)
    obtain ⟨-, hcfg, -⟩ := exec_keeps_environment h
    exact ⟨by rwa [htriac], by rwa [hstep (by simp), hcfg], by rwa [hnext (by simp)]⟩

/-- The schedule's micro-operation at uPC, with the uPC update, keeps the schedule part. -/
theorem scheduled_exec_keeps_onSchedule {i : Instr} {w : OpWord} (hs : s.OnSchedule)
    (hw : fetchWord s = some w) (hi : decodeWord w = .ok i) (h : exec i s = .next t) :
    (advanceUpc t).OnSchedule := by
  obtain ⟨hused, hlast, hopen, hclosed⟩ := hs
  obtain ⟨hu, rfl⟩ | ⟨hu, rfl⟩ | ⟨hu, rfl⟩ | ⟨hu, hiter, hend⟩ := scheduled_instr_cases hw hi
  · -- CYC.BEGIN opens the loop: the last semicycle's pattern is not the one that ends it
    obtain ⟨_, rfl⟩ := exec_cycBegin_update h
    refine onSchedule_in_loop (by simp [hu, nextUpc]) rfl ?_
    simpa [hlast (by simp [hu]) (by simp [hu])] using expPattern_not_ne s.ph
  · -- CYC.ITER stays in the loop exactly as long as its exit test fails
    obtain ⟨hdone, -⟩ := hopen hu
    obtain ⟨_, _, _, _, -, rfl⟩ := exec_cycIter_update h
    by_cases hexit : shiftIn s.zh (pinLevel .zcIn s) = expPattern s.ph
    · exact onSchedule_at_end (by simp [hu, nextUpc, hexit]) (by simp [hexit]) hexit
    · exact onSchedule_in_loop (by simp [hu, nextUpc, hdone, hexit]) (by simp [hdone, hexit]) hexit
  · -- CYC.END toggles PH, which makes the pattern the last semicycle's
    obtain ⟨-, hzh⟩ := hclosed hu
    obtain ⟨_, _, -, rfl⟩ := exec_cycEnd_update h
    have h5 : nextUpc s.cfg.schedule s.zdone s.upc = 5 := by simp [hu, nextUpc]
    apply onSchedule_between_loops <;> simp [h5, hzh]
  · -- every other micro-operation leaves ZH and PH alone
    obtain ⟨hkeepEnd, hkeepIter, -⟩ := onlyListedWriters i s t h
    obtain ⟨hupc, hcfg, -⟩ := exec_keeps_environment h
    obtain ⟨-, hph, -⟩ := hkeepEnd hend
    obtain ⟨hzh, -⟩ := hkeepIter hiter
    obtain ⟨h3, h4⟩ := nextUpc_outside_loop t.cfg.schedule t.zdone t.upc (by rwa [hupc])
    obtain ⟨-, hu3, hu4⟩ := hu
    have hused' : t.cfg.schedule = .engineOnly → t.upc ≠ 7 := by rwa [hcfg, hupc]
    exact onSchedule_between_loops (nextUpc_stays_used t.zdone hused') h3 h4
      (by simpa [hzh, hph] using hlast hu3 hu4)

/-- Settles O18: at uPC = 0 the history 0x00 is EXP(1), the pattern of a semicycle with PH = 1. -/
theorem resetMeetsInvariant : Obligations.ResetMeetsInvariant := by
  unfold Obligations.ResetMeetsInvariant
  intro c
  exact {
    sound := ⟨rfl, BitVec.le_def.2 (Nat.zero_le _), Mode.noConfusion⟩
    onSchedule _ := onSchedule_between_loops (by simp [State.resetWith]) (by simp [State.resetWith])
      (by simp [State.resetWith]) rfl }

/-- A held reset is a reset but for who drives the block and what the environment will drive. -/
theorem holdReset_inv (s : State) : (holdReset s).Inv := by
  obtain ⟨⟨hgate, hlevel, hmode⟩, honSchedule⟩ := resetMeetsInvariant s.cfg
  obtain ⟨hused, hlast, hopen, hclosed⟩ := honSchedule rfl
  exact ⟨⟨hgate, hlevel, hmode⟩, fun _ => ⟨hused, hlast, hopen, hclosed⟩⟩

/-- Reading `rst` is no part of what the invariant speaks of. -/
theorem afterRst_inv (hs : s.Inv) : (afterRst s).Inv := by
  obtain ⟨⟨hgate, hlevel, hmode⟩, honSchedule⟩ := hs
  refine ⟨⟨hgate, hlevel, hmode⟩, fun hd => ?_⟩
  obtain ⟨hused, hlast, hopen, hclosed⟩ := honSchedule hd
  exact ⟨hused, hlast, hopen, hclosed⟩

/-- Settles O19: a held reset meets the invariant; the schedule's micro-operation keeps both parts; a
harness's word keeps the part that does not speak of the schedule. -/
theorem everyStepKeepsInvariant : Obligations.EveryStepKeepsInvariant := by
  unfold Obligations.EveryStepKeepsInvariant
  intro s t hs h
  obtain ⟨hsound, honSchedule⟩ := afterRst_inv hs
  obtain ⟨-, rfl⟩ | ⟨-, -, ⟨w, i, u, hd, hw, hi, hu, rfl⟩ | ⟨w, rest, i, -, -, ht⟩⟩ := step_cases h
  · exact holdReset_inv s
  · obtain ⟨hgate, hlevel, hmode⟩ := exec_keeps_sound hsound hu
    exact ⟨⟨hgate, hlevel, hmode⟩,
      fun _ => scheduled_exec_keeps_onSchedule (honSchedule hd) hw hi hu⟩
  · obtain ⟨hgate, hlevel, hmode⟩ := hsound
    obtain ⟨-, -, -, -, hdriver⟩ := exec_keeps_environment ht
    exact ⟨exec_keeps_sound (s := { afterRst s with driver := .harness rest })
      ⟨hgate, hlevel, hmode⟩ ht, fun hseq => by simp [hdriver] at hseq⟩

end Sys2Proof.Machine
end

section
/-! SUPPORT. The decoder read backwards: what a word must be for the answer that it gets
(30_encoding.md rules R80, R83, R85). -/

namespace Sys2Proof.Machine

variable {w : OpWord} {i : Instr}

/-- MAJOR is the high hexadecimal digit (30_encoding.md rule R80). -/
theorem opWord_major_toNat (w : OpWord) : (OpWord.major w).toNat = w.toNat / 16 := by
  have := w.isLt
  simp only [OpWord.major, BitVec.extractLsb'_toNat, Nat.shiftRight_eq_div_pow]
  omega

/-- SUB is the low hexadecimal digit (30_encoding.md rule R80). -/
theorem opWord_sub_toNat (w : OpWord) : (OpWord.sub w).toNat = w.toNat % 16 := by
  simp [OpWord.sub, BitVec.extractLsb'_toNat]

theorem opWord_sub_eq_zero_iff (w : OpWord) : OpWord.sub w = 0 ↔ w.toNat % 16 = 0 := by
  rw [← opWord_sub_toNat, BitVec.toNat_eq]; rfl

/-- A word is determined by its two fields. -/
theorem opWord_eq_of_fields {m : Nat} (hsub : OpWord.sub w = 0)
    (hmajor : (OpWord.major w).toNat = m) : w = BitVec.ofNat 8 (16 * m) := by
  rw [opWord_sub_eq_zero_iff] at hsub
  rw [opWord_major_toNat] at hmajor
  bv_omega

/-- Only a micro-operation's own op word decodes to it. -/
theorem eq_encode_of_decodeWord (h : decodeWord w = .ok i) : w = encode i := by
  unfold decodeWord at h
  split at h
  case isTrue => cases h
  case isFalse hsub =>
    have hsub : OpWord.sub w = 0 := by simpa using hsub
    split at h <;> cases h <;> exact opWord_eq_of_fields hsub ‹_›

theorem decodeWord_eq_ok_iff : decodeWord w = .ok i ↔ w = encode i :=
  ⟨eq_encode_of_decodeWord, fun h => by rw [h, decodeWord_encode]⟩

/-- A word is reserved exactly when SUB is not 0, or MAJOR is 0 or above 9. -/
theorem decodeWord_eq_reserved_iff : decodeWord w = .error .reservedOpWord ↔
    w.toNat % 16 ≠ 0 ∨ w.toNat / 16 = 0 ∨ 10 ≤ w.toNat / 16 := by
  have hword := w.isLt
  have hsub := opWord_sub_eq_zero_iff w
  have hmajor := opWord_major_toNat w
  unfold decodeWord
  split
  case isTrue hs => exact iff_of_true rfl (.inl fun h => hs (hsub.2 h))
  case isFalse hs =>
    have hs : w.toNat % 16 = 0 := hsub.1 (by simpa using hs)
    split
    case h_10 =>
      simp only [imp_false, true_iff] at *
      omega
    all_goals exact iff_of_false nofun (by omega)

/-- The same on the word's bits, by the masks and shifts that pick the two fields. -/
theorem reserved_bits_iff (w : OpWord) : (w &&& 0x0F ≠ 0 ∨ w >>> 4 = 0 ∨ 0x0A ≤ w >>> 4) ↔
    w.toNat % 16 ≠ 0 ∨ w.toNat / 16 = 0 ∨ 10 ≤ w.toNat / 16 := by
  have hmask : (w &&& 0x0F).toNat = w.toNat % 16 := Nat.and_two_pow_sub_one_eq_mod w.toNat 4
  have hshift : (w >>> 4).toNat = w.toNat / 16 := Nat.shiftRight_eq_div_pow w.toNat 4
  simp only [ne_eq, BitVec.toNat_eq, BitVec.le_def, hmask, hshift]
  rfl

/-- A harness's bits that decode are an op word that decodes. -/
theorem decodeWord_of_decodeTableWord {nbits n : Nat} (h : decodeTableWord nbits n = some i) :
    decodeWord (tableWord nbits n) = .ok i := by
  simp only [decodeTableWord, decode] at h
  cases hw : decodeWord (tableWord nbits n) <;> simp_all

/-- A trace program that decodes, taken apart at its first word. -/
theorem decodeProgram_cons_eq_ok {ws : List OpWord} {is : List Instr}
    (h : decodeProgram (w :: ws) = .ok is) :
    ∃ i js, decodeWord w = .ok i ∧ decodeProgram ws = .ok js ∧ is = i :: js := by
  simp only [decodeProgram] at h
  split at h
  · cases h
  case h_2 i hi =>
    split at h <;> cases h
    exact ⟨i, _, hi, ‹_›, rfl⟩

/-- The words of a trace program of any length decode back to it. -/
theorem decodeProgram_encodeProgram (is : List Instr) :
    decodeProgram (encodeProgram is) = .ok is := by
  induction is with
  | nil => rfl
  | cons i is ih =>
    unfold encodeProgram at ih
    simp [encodeProgram, decodeProgram, ih]

/-- Words that decode are the words of what they decode to. -/
theorem encodeProgram_of_decodeProgram {ws : List OpWord} {is : List Instr}
    (h : decodeProgram ws = .ok is) : encodeProgram is = ws := by
  induction ws generalizing is with
  | nil => cases h; rfl
  | cons w ws ih =>
    obtain ⟨i, js, hw, hws, rfl⟩ := decodeProgram_cons_eq_ok h
    have hhead : encode i = w := (eq_encode_of_decodeWord hw).symm
    have htail : List.map encode js = ws := ih hws
    simp [encodeProgram, hhead, htail]

end Sys2Proof.Machine
end

section
/-! SUPPORT. A step with `rst` low and nothing forbidding a run, under either driver (30_encoding.md
rules R86, R87, R89). -/

namespace Sys2Proof.Machine

/-- Where nothing forbids a run, the micro-sequencer's step is the schedule's micro-operation and
then the uPC update. -/
theorem step_of_scheduled {s : State} {w : OpWord} {i : Instr} (hrst : rstLevel s = false)
    (hadm : admission s = none) (hd : s.driver = .sequencer) (hw : fetchWord s = some w)
    (hi : decodeWord w = .ok i) : step s = advanceNext (exec i (afterRst s)) := by
  have hfetch : fetchWord (afterRst s) = some w := hw
  simp [step, hrst, hadm, runNext, hd, hfetch, runWord, hi]

/-- Where nothing forbids a run, the harness's step runs its next word. -/
theorem step_of_handed {s : State} {w : OpWord} {rest : List OpWord} (hrst : rstLevel s = false)
    (hadm : admission s = none) (hd : s.driver = .harness (w :: rest)) :
    step s = runWord w { afterRst s with driver := .harness rest } := by
  simp [step, hrst, hadm, runNext, hd]

theorem runWord_of_decodeWord {w : OpWord} {i : Instr} (hi : decodeWord w = .ok i) (s : State) :
    runWord w s = exec i s := by
  simp [runWord, hi]

end Sys2Proof.Machine
end

section
/-! PROOFS. Op words, schedules and single steps (30_encoding.md rules R82 to R89). -/

namespace Sys2Proof.Machine

/-- Settles O3: forward by induction on the program, back by induction on its words. -/
theorem programWordsRoundTrip : Obligations.ProgramWordsRoundTrip :=
  ⟨decodeProgram_encodeProgram, fun _ _ => encodeProgram_of_decodeProgram⟩

/-- Settles O1: each word written out is the encoder's word. -/
theorem tableWordsDecode : Obligations.TableWordsDecode :=
  ⟨decodeWord_encode .curve, decodeWord_encode .cycBegin, decodeWord_encode .cycIter,
    decodeWord_encode .cycEnd, decodeWord_encode .btnPoll, decodeWord_encode .blink,
    decodeWord_encode .seqStep, decodeWord_encode .seqNext, decodeWord_encode .hostLoad⟩

/-- Settles O2: the decoder read backwards, and its reserved words by their two fields. -/
theorem decodeIsTheTable : Obligations.DecodeIsTheTable :=
  ⟨fun _ _ => decodeWord_eq_ok_iff,
    fun w => decodeWord_eq_reserved_iff.trans (reserved_bits_iff w).symm⟩

/-- Settles O7: both rows of the table, computed. -/
theorem scheduleIsTheTable : Obligations.ScheduleIsTheTable := ⟨rfl, rfl⟩

/-- Settles O8: steps 3, 6 and 7 are computed; every other step counts up. -/
theorem nextStepIndex : Obligations.NextStepIndex := by
  unfold Obligations.NextStepIndex
  refine ⟨fun sch => ⟨rfl, rfl⟩, fun z => ⟨rfl, rfl⟩, fun sch z => ?_, fun sch z u h3 h6 h7 => ?_,
    fun z u hu => nextUpc_stays_used z (fun _ => hu) rfl⟩
  · simp [nextUpc]
  · rw [nextUpc, if_neg h3, if_neg (fun h => h6 h.1), if_neg h7]

/-- Settles O4: the state that the step runs on is the one with `rst` read. -/
theorem stepRunsScheduledWord : Obligations.StepRunsScheduledWord := by
  unfold Obligations.StepRunsScheduledWord
  intro s w i hrst hadm hd hw hi
  rw [step_of_scheduled hrst hadm hd hw hi]
  constructor
  · intro t (h : exec i (afterRst s) = .next t)
    rw [h]; rfl
  · intro r (h : exec i (afterRst s) = .refused r)
    rw [h]; rfl

/-- Settles O5: the micro-operation runs on the state with `rst` read and the word taken, and leaves
uPC as it is. -/
theorem stepRunsHarnessWord : Obligations.StepRunsHarnessWord := by
  unfold Obligations.StepRunsHarnessWord
  intro s w rest i hrst hadm hd hi
  have hstep : step s = exec i { s with rstIn := s.rstIn.tail, driver := .harness rest } := by
    rw [step_of_handed hrst hadm hd, runWord_of_decodeWord hi]; rfl
  refine ⟨hstep, fun t ht => ?_⟩
  obtain ⟨hupc, -⟩ := exec_keeps_environment (hstep.symm.trans ht)
  exact hupc

/-- Settles O6: what is handed over is a harness's only word, with `rst` low and no mark. -/
theorem handedWordRuns : Obligations.HandedWordRuns := by
  unfold Obligations.HandedWordRuns
  intro s w i hcfg hi
  have hadm : admission (s.withFetchWord 8 w) = none := by
    simp [admission, State.withFetchWord, handWord, hcfg]
  rw [step_of_handed rfl hadm rfl, runWord_of_decodeWord (decodeWord_of_decodeTableWord hi)]
  rfl

end Sys2Proof.Machine
end

section
/-! SUPPORT. The same micro-operation under another driver and at another uPC. -/

namespace Sys2Proof.Machine

variable {s t : State} {i : Instr}

/-- The block with another driver and another uPC, neither of which a micro-operation reads. -/
def State.under (d : Driver) (u : StepIndex) (s : State) : State := { s with driver := d, upc := u }

/-- What becomes of an outcome whose next state is changed by `f`. -/
def onNext (f : State → State) : Host.Outcome State Fault Refusal → Host.Outcome State Fault Refusal
  | .next s => .next (f s)
  | .fault r => .fault r
  | .refused r => .refused r

/-- No micro-operation reads the driver or uPC. -/
theorem exec_under (i : Instr) (s : State) (d : Driver) (u : StepIndex) :
    exec i (s.under d u) = onNext (State.under d u) (exec i s) := by
  cases i
  case curve | btnPoll | hostLoad => rfl
  case cycBegin =>
    by_cases hcomp : s.ph = s.cfg.compPhase
    · have hcomp' : (s.under d u).ph = (s.under d u).cfg.compPhase := hcomp
      simp only [exec, execCycBegin, if_pos hcomp, if_pos hcomp']; rfl
    · have hcomp' : ¬ (s.under d u).ph = (s.under d u).cfg.compPhase := hcomp
      simp only [exec, execCycBegin, if_neg hcomp, if_neg hcomp']; rfl
  case cycIter =>
    have hfire : fireDue (s.under d u) = fireDue s := rfl
    simp only [exec, execCycIter, hfire]
    cases fireDue s <;> rfl
  case cycEnd =>
    have hsnap : snapDue (s.under d u) = snapDue s := rfl
    simp only [exec, execCycEnd, hsnap]
    cases snapDue s <;> rfl
  case blink =>
    have hon : blinkOnDue { s.under d u with le := satInc8 (s.under d u).le } =
        blinkOnDue { s with le := satInc8 s.le } := rfl
    have hoff : blinkOffDue { s.under d u with le := satInc8 (s.under d u).le } =
        blinkOffDue { s with le := satInc8 s.le } := rfl
    simp only [exec, execBlink, blinkSwitch, hon, hoff]
    cases blinkOnDue { s with le := satInc8 s.le } <;>
      cases blinkOffDue { s with le := satInc8 s.le } <;> rfl
  case seqStep =>
    have hmode : (s.under d u).mode = s.mode := rfl
    simp only [exec, execSeqStep, hmode]
    cases s.mode <;> rfl
  case seqNext =>
    have hmode : (s.under d u).mode = s.mode := rfl
    simp only [exec, execSeqNext, hmode]
    cases s.mode
    case reserved => rfl
    all_goals simp only [apply_ite (onNext _)]; rfl

end Sys2Proof.Machine
end

section
/-! SUPPORT. Runs with `rst` low for good and nothing forbidding them: steps of either driver beside
the micro-operations that they run. -/

namespace Sys2Proof.Machine

variable {s t : State} {i : Instr}

/-- `rst` has no level left to come but 0, and nothing forbids a run. -/
structure State.Quiet (s : State) : Prop where
  rstOver : s.rstIn = []
  admitted : admission s = none

theorem exec_keeps_quiet (hs : s.Quiet) (h : exec i s = .next t) : t.Quiet := by
  obtain ⟨-, -, hrst, -, -⟩ := exec_keeps_environment h
  exact ⟨hrst.trans hs.rstOver, (exec_keeps_admission h).trans hs.admitted⟩

/-- An admitted block has no refusal marked (60_exceptions.md rule R206). -/
theorem refusalMark_of_admitted (h : admission s = none) : s.refusalMark = none := by
  unfold admission at h
  split at h
  · cases h
  · assumption

theorem rstLevel_under (hs : s.Quiet) (d : Driver) (u : StepIndex) :
    rstLevel (s.under d u) = false := by
  simp [rstLevel, State.under, hs.rstOver]

theorem afterRst_under (hs : s.Quiet) (d : Driver) (u : StepIndex) :
    afterRst (s.under d u) = s.under d u := by
  simp [afterRst, State.under, hs.rstOver]

theorem runWord_under (w : OpWord) (s : State) (d : Driver) (u : StepIndex) :
    runWord w (s.under d u) = onNext (State.under d u) (runWord w s) := by
  unfold runWord
  split
  · exact exec_under _ s d u
  · rfl

/-- A word that answers a next state is a micro-operation's that does. -/
theorem runWord_cases {w : OpWord} (h : runWord w s = .next t) :
    ∃ i, decodeWord w = .ok i ∧ exec i s = .next t := by
  unfold runWord at h
  split at h
  case h_1 i hi => exact ⟨i, hi, h⟩
  · cases h

/-- A harness's step beside the word that it runs. -/
theorem step_under_harness (hs : s.Quiet) (w : OpWord) (rest : List OpWord) (u : StepIndex) :
    step (s.under (.harness (w :: rest)) u) =
      onNext (State.under (.harness rest) u) (runWord w s) := by
  rw [step_of_handed (rstLevel_under hs _ u) hs.admitted rfl, afterRst_under hs]
  exact runWord_under w s (.harness rest) u

/-- A micro-sequencer's step beside the micro-operation that the schedule names. -/
theorem step_under_sequencer {u : StepIndex} (hs : s.Quiet)
    (hw : scheduleWord s.cfg.schedule u = some (encode i)) (h : exec i s = .next t) :
    step (s.under .sequencer u) = .next (t.under .sequencer (nextUpc s.cfg.schedule t.zdone u)) := by
  obtain ⟨-, hcfg, -⟩ := exec_keeps_environment h
  rw [step_of_scheduled (rstLevel_under hs _ u) hs.admitted rfl hw (decodeWord_encode i),
    afterRst_under hs, exec_under, h, ← hcfg]
  rfl

/-- A run of two lists that answers a next state is a run of each. -/
theorem runInstrs_append_cases {xs ys : List Instr} (h : runInstrs (xs ++ ys) s = .next t) :
    ∃ u, runInstrs xs s = .next u ∧ runInstrs ys u = .next t := by
  rw [runInstrs_append] at h
  cases hx : runInstrs xs s with
  | next u => exact ⟨u, rfl, by simpa [hx] using h⟩
  | fault r => exact nomatch r
  | refused r => simp [hx] at h

/-- A run that answers a next state, taken apart at its first micro-operation. -/
theorem runInstrs_cons_cases {is : List Instr} (h : runInstrs (i :: is) s = .next t) :
    ∃ u, exec i s = .next u ∧ runInstrs is u = .next t := by
  simp only [runInstrs] at h
  cases hx : exec i s with
  | next u => exact ⟨u, rfl, by simpa [hx] using h⟩
  | fault r => exact nomatch r
  | refused r => simp [hx] at h

theorem runInstrs_cons_next {is : List Instr} (h : exec i s = .next t) :
    runInstrs (i :: is) s = runInstrs is t := by
  simp [runInstrs, h]

theorem runSteps_succ_next {n : Nat} (h : step s = .next t) :
    runSteps (n + 1) s = runSteps n t := by
  simp [runSteps, h]

/-- What no list of micro-operations touches, and that it leaves the block quiet. -/
theorem runInstrs_keeps {is : List Instr} (hs : s.Quiet) (h : runInstrs is s = .next t) :
    t.Quiet ∧ t.upc = s.upc ∧ t.cfg = s.cfg ∧ t.driver = s.driver := by
  induction is generalizing s with
  | nil => cases h; exact ⟨hs, rfl, rfl, rfl⟩
  | cons i is ih =>
    obtain ⟨u, hu, ht⟩ := runInstrs_cons_cases h
    obtain ⟨hupc, hcfg, -, -, hdriver⟩ := exec_keeps_environment hu
    simpa [hupc, hcfg, hdriver] using ih (exec_keeps_quiet hs hu) ht

end Sys2Proof.Machine
end

section
/-! PROOFS. A harness's run of a trace program is the machine's steps over it (30_encoding.md rule R89;
60_exceptions.md rules R202, R206). -/

namespace Sys2Proof.Machine

/-- What the steps over a trace program come to, read from the state that the harness's run ends in:
that state with no word left, or the refusal that it marked. -/
def traceOutcome (u : StepIndex) (t : State) : Host.Outcome State Fault Refusal :=
  match t.refusalMark with
  | none => .next (t.under (.harness []) u)
  | some r => .refused r

/-- By induction on the words: a refused word ends both, any other leaves both as quiet as they were. -/
theorem runSteps_harness (ws : List OpWord) {s : State} (hs : s.Quiet) (u : StepIndex) :
    runSteps ws.length (s.under (.harness ws) u) = traceOutcome u (runTrace ws s) := by
  induction ws generalizing s with
  | nil => simp [runSteps, runTrace, traceOutcome, refusalMark_of_admitted hs.admitted]
  | cons w ws ih =>
    have hstep := step_under_harness hs w ws u
    simp only [runTrace, hs.admitted]
    cases hw : runWord w s with
    | next t =>
      rw [hw] at hstep
      obtain ⟨i, -, ht⟩ := runWord_cases hw
      exact (runSteps_succ_next hstep).trans (ih (exec_keeps_quiet hs ht))
    | fault r => exact nomatch r
    | refused r =>
      rw [hw] at hstep
      simp [runSteps, hstep, onNext, traceOutcome, markRefused]

/-- The harness's run leaves the driver and uPC alone. -/
theorem runTrace_under (ws : List OpWord) (s : State) :
    (runTrace ws s).under s.driver s.upc = runTrace ws s := by
  induction ws generalizing s with
  | nil => rfl
  | cons w ws ih =>
    simp only [runTrace]
    split
    · rfl
    split
    case h_1 t hw =>
      obtain ⟨i, -, ht⟩ := runWord_cases hw
      obtain ⟨hupc, -, -, -, hdriver⟩ := exec_keeps_environment ht
      rw [← hupc, ← hdriver]
      exact ih t
    · rfl
    · rfl

/-- Settles O11: the steps' outcome is read from the mark of the state that the run ends in. -/
theorem traceRunIsSteps : Obligations.TraceRunIsSteps := by
  unfold Obligations.TraceRunIsSteps
  intro ws s hrst hadm hd
  have hrun : runSteps ws.length { s with driver := .harness ws } =
      traceOutcome s.upc (runTrace ws s) := runSteps_harness ws ⟨hrst, hadm⟩ s.upc
  have hend : (runTrace ws s).under (.harness []) s.upc = runTrace ws s := hd ▸ runTrace_under ws s
  rw [hrun]
  constructor
  · intro hmark
    simp [traceOutcome, hmark, hend]
  · intro r hmark
    simp [traceOutcome, hmark]

end Sys2Proof.Machine
end

section
/-! SUPPORT. How many CYC.ITERs the loop takes, said of runs of micro-operations (30_encoding.md rule
R90). -/

namespace Sys2Proof.Machine

variable {s t : State}

/-- `k` CYC.ITERs answer a next state, with ZDONE as given. -/
def ZdoneAfter (s : State) (k : Nat) (z : Bool) : Prop :=
  ∃ t, runInstrs (List.replicate k .cycIter) s = .next t ∧ t.zdone = z

theorem zdoneAfter_zero (s : State) (z : Bool) : ZdoneAfter s 0 z ↔ s.zdone = z :=
  ⟨fun ⟨_, ht, hz⟩ => by cases ht; exact hz, fun h => ⟨s, rfl, h⟩⟩

theorem zdoneAfter_succ (h : exec .cycIter s = .next t) (k : Nat) (z : Bool) :
    ZdoneAfter s (k + 1) z ↔ ZdoneAfter t k z := by
  simp only [ZdoneAfter, List.replicate_succ, runInstrs_cons_next h]

/-- `k` is the first number of CYC.ITERs that makes ZDONE = 1. -/
def LoopEndsAfter (s : State) (k : Nat) : Prop :=
  ZdoneAfter s k true ∧ ∀ j < k, ZdoneAfter s j false

theorem loopEndsAfter_of_done (hs : s.zdone = true) (k : Nat) : LoopEndsAfter s k ↔ k = 0 := by
  constructor
  · intro ⟨_, hbefore⟩
    by_contra hk
    have h0 := (zdoneAfter_zero s false).1 (hbefore 0 (Nat.pos_of_ne_zero hk))
    simp [hs] at h0
  · rintro rfl
    exact ⟨(zdoneAfter_zero s true).2 hs, nofun⟩

theorem not_loopEndsAfter_zero (hs : s.zdone = false) : ¬ LoopEndsAfter s 0 := by
  intro ⟨hdone, _⟩
  have h0 := (zdoneAfter_zero s true).1 hdone
  simp [hs] at h0

theorem loopEndsAfter_succ (h : exec .cycIter s = .next t) (hs : s.zdone = false) (k : Nat) :
    LoopEndsAfter s (k + 1) ↔ LoopEndsAfter t k := by
  unfold LoopEndsAfter
  rw [zdoneAfter_succ h, Nat.forall_lt_succ_left]
  simp [zdoneAfter_zero, zdoneAfter_succ h, hs]

/-- The loop's length, where it is within the fuel, is the first number of CYC.ITERs that makes
ZDONE = 1. -/
theorem loopLength_eq_some_iff (fuel : Nat) (hs : s.zdone = false) (k : Nat) :
    loopLength fuel s = some k ↔ k ≤ fuel ∧ LoopEndsAfter s k := by
  induction fuel generalizing s k with
  | zero =>
    refine iff_of_false nofun fun ⟨hk, hend⟩ => ?_
    exact not_loopEndsAfter_zero hs (Nat.le_zero.1 hk ▸ hend)
  | succ fuel ih =>
    obtain ⟨t, ht⟩ := exec_cycIter_next s
    cases k with
    | zero =>
      refine iff_of_false (fun h => ?_) (fun h => not_loopEndsAfter_zero hs h.2)
      have := loopLength_bounds h
      omega
    | succ k =>
      rw [loopLength_succ fuel ht, loopEndsAfter_succ ht hs]
      cases hz : t.zdone with
      | true =>
        have hfirst : k = 0 → k ≤ fuel := fun h => h ▸ Nat.zero_le fuel
        simpa [loopEndsAfter_of_done hz] using hfirst
      | false => simp [ih hz]

/-- Where the entry runs, the expansion is around the loop from the state that it leaves. -/
theorem aroundLoop_of_next {entry : List Instr} (fuel : Nat) (exit : List Instr)
    (hadm : admission s = none) (h : runInstrs entry s = .next t) (ht : admission t = none) :
    aroundLoop fuel entry exit s =
      (loopLength fuel t).map (fun k => entry ++ List.replicate k .cycIter ++ exit) := by
  simp [aroundLoop, runTrace_encode_of_runInstrs hadm h, refusalMark_of_admitted ht]

/-- An expansion that runs is one around a loop: its entry was not refused. -/
theorem aroundLoop_cases {fuel : Nat} {entry exit is : List Instr} (hs : s.Quiet)
    (hexp : aroundLoop fuel entry exit s = some is) (hrun : runInstrs is s = .next t) :
    ∃ u k, runInstrs entry s = .next u ∧ loopLength fuel u = some k ∧
      is = entry ++ List.replicate k .cycIter ++ exit := by
  obtain ⟨hmark, rfl⟩ | ⟨-, k, hk, rfl⟩ := aroundLoop_eq_some hexp
  · obtain ⟨ht, -⟩ := runInstrs_keeps hs hrun
    rw [runTrace_encode_of_runInstrs hs.admitted hrun] at hmark
    exact absurd (refusalMark_of_admitted ht.admitted) hmark
  · rw [List.append_assoc] at hrun
    obtain ⟨u, hu, -⟩ := runInstrs_append_cases hrun
    rw [runTrace_encode_of_runInstrs hs.admitted hu] at hk
    exact ⟨u, k, hu, hk, rfl⟩

end Sys2Proof.Machine
end

section
/-! SUPPORT. The micro-sequencer's steps over a part of its schedule (30_encoding.md rules R86, R87). -/

namespace Sys2Proof.Machine

variable {s t : State}

/-- Where uPC stands after the listed micro-operations, if the schedule names them in turn from `u`
and none at the loop's step 3; else none. -/
def straightEnd (sch : Schedule) : List Instr → StepIndex → Option StepIndex
  | [], u => some u
  | i :: is, u =>
    if u ≠ 3 ∧ scheduleWord sch u = some (encode i) then straightEnd sch is (nextUpc sch false u)
    else none

/-- Outside the loop the uPC update does not read ZDONE. -/
theorem nextUpc_off_loop (sch : Schedule) (z : Bool) {u : StepIndex} (hu : u ≠ 3) :
    nextUpc sch z u = nextUpc sch false u := by
  simp only [nextUpc, if_neg hu]

/-- Over a part of the schedule without the loop, a step for each micro-operation. -/
theorem runSteps_straight {is : List Instr} {u v : StepIndex} (hs : s.Quiet)
    (hpath : straightEnd s.cfg.schedule is u = some v) (h : runInstrs is s = .next t) :
    runSteps is.length (s.under .sequencer u) = .next (t.under .sequencer v) := by
  induction is generalizing s u with
  | nil => cases h; cases hpath; rfl
  | cons i is ih =>
    obtain ⟨r, hr, ht⟩ := runInstrs_cons_cases h
    obtain ⟨-, hcfg, -⟩ := exec_keeps_environment hr
    unfold straightEnd at hpath
    split at hpath
    case isTrue hstep =>
      obtain ⟨hloop, hw⟩ := hstep
      have hnext := step_under_sequencer hs hw hr
      rw [nextUpc_off_loop _ _ hloop] at hnext
      rw [List.length_cons, runSteps_succ_next hnext]
      exact ih (exec_keeps_quiet hs hr) (by rwa [hcfg]) ht
    case isFalse => cases hpath

/-- Over the loop, a step for each CYC.ITER: uPC stays at 3 until the one that makes ZDONE = 1. -/
theorem runSteps_loop {fuel k : Nat} (hs : s.Quiet) (hk : loopLength fuel s = some k)
    (h : runInstrs (List.replicate k .cycIter) s = .next t) :
    runSteps k (s.under .sequencer 3) = .next (t.under .sequencer 4) := by
  induction fuel generalizing s k with
  | zero => cases hk
  | succ fuel ih =>
    obtain ⟨r, hr⟩ := exec_cycIter_next s
    have hnext : step (s.under .sequencer 3) =
        .next (r.under .sequencer (nextUpc s.cfg.schedule r.zdone 3)) :=
      step_under_sequencer hs rfl hr
    rw [loopLength_succ fuel hr] at hk
    cases hz : r.zdone with
    | true =>
      rw [hz] at hnext
      have h1 : k = 1 := by simpa [hz, eq_comm] using hk
      subst h1
      rw [List.replicate_one, runInstrs_cons_next hr] at h
      cases h
      exact runSteps_succ_next hnext
    | false =>
      rw [hz] at hnext
      obtain ⟨j, hj, rfl⟩ := Option.map_eq_some_iff.1 (by simpa [hz] using hk)
      rw [List.replicate_succ, runInstrs_cons_next hr] at h
      rw [runSteps_succ_next hnext]
      exact ih (exec_keeps_quiet hs hr) hj h

end Sys2Proof.Machine
end

section
/-! PROOFS. The expansion of a trace program's lines, and a pass of either schedule (30_encoding.md
rules R86, R90). -/

namespace Sys2Proof.Machine

variable {s t : State}

/-- Settles O57: CYC.BEGIN always runs and clears ZDONE, and the rest is the loop from there. -/
theorem linesExpandOnTheState : Obligations.LinesExpandOnTheState := by
  unfold Obligations.LinesExpandOnTheState
  intro s fuel
  refine ⟨fun i => rfl, fun n => rfl, fun hadm is => ?_⟩
  obtain ⟨u, hu⟩ : ∃ u, exec .cycBegin s = .next u := ⟨_, rfl⟩
  have hzdone : u.zdone = false := by
    obtain ⟨_, rfl⟩ := exec_cycBegin_update hu
    rfl
  have hexp : expandLine fuel .cycRun s = (loopLength fuel u).map
      (fun k => [.cycBegin] ++ List.replicate k .cycIter ++ [.cycEnd]) :=
    aroundLoop_of_next fuel _ hadm (runInstrs_cons_next hu) ((exec_keeps_admission hu).trans hadm)
  simp only [hexp, Option.map_eq_some_iff, loopLength_eq_some_iff fuel hzdone, LoopEndsAfter,
    ZdoneAfter, runInstrs_cons_next hu]
  constructor
  · rintro ⟨k, ⟨hk, hend⟩, rfl⟩
    exact ⟨k, hk, rfl, hend⟩
  · rintro ⟨k, hk, rfl, hend⟩
    exact ⟨k, ⟨hk, hend⟩, rfl⟩

/-- A pass of a schedule whose parts before and after the loop are `entry` and `exit`: the steps over
the entry, over the loop, and over the exit. -/
theorem pass_of_expansion {fuel : Nat} {entry exit is : List Instr} (hs : s.Quiet)
    (hd : s.driver = .sequencer) (hupc : s.upc = 0)
    (hentry : straightEnd s.cfg.schedule entry 0 = some 3)
    (hexit : straightEnd s.cfg.schedule exit 4 = some 0)
    (hexp : aroundLoop fuel entry exit s = some is) (hrun : runInstrs is s = .next t) :
    runSteps is.length s = .next t ∧ t.upc = 0 ∧
      ∃ k, 1 ≤ k ∧ is = entry ++ (List.replicate k .cycIter ++ exit) := by
  obtain ⟨u, k, hu, hk, rfl⟩ := aroundLoop_cases hs hexp hrun
  obtain ⟨-, htupc, -, htd⟩ := runInstrs_keeps hs hrun
  rw [List.append_assoc, runInstrs_append_next hu] at hrun
  obtain ⟨v, hv, hvt⟩ := runInstrs_append_cases hrun
  obtain ⟨huq, -, hucfg, -⟩ := runInstrs_keeps hs hu
  obtain ⟨hvq, -, hvcfg, -⟩ := runInstrs_keeps huq hv
  have hstart : s.under .sequencer 0 = s := by rw [← hd, ← hupc]; rfl
  have hend : t.under .sequencer 0 = t := by rw [← hd, ← hupc, ← htd, ← htupc]; rfl
  have h1 := runSteps_straight hs hentry hu
  have h2 := runSteps_loop huq hk hv
  have h3 := runSteps_straight hvq (by rwa [hvcfg, hucfg]) hvt
  rw [hstart] at h1
  rw [hend] at h3
  refine ⟨?_, htupc.trans hupc, k, (loopLength_bounds hk).1, List.append_assoc _ _ _⟩
  simp only [List.length_append, List.length_replicate, Nat.add_assoc]
  rw [runSteps_add_next h1, runSteps_add_next h2, h3]

/-- Settles O9: SEQ.STEP, CURVE and CYC.BEGIN lead to the loop, and from CYC.END on the schedule leads
from step 4 to step 0. -/
theorem fullPassIsSemicycle : Obligations.FullPassIsSemicycle := by
  unfold Obligations.FullPassIsSemicycle
  intro s t fuel is hrst hadm hd hsch hupc hexp hrun
  simp only [expandLine, hsch] at hexp
  exact pass_of_expansion ⟨hrst, hadm⟩ hd hupc (by rw [hsch]; rfl) (by rw [hsch]; rfl) hexp hrun

/-- Settles O10: as in FULL, with HOST.LOAD first and uPC going from 6 to 0. -/
theorem enginePassIsSemicycle : Obligations.EnginePassIsSemicycle := by
  unfold Obligations.EnginePassIsSemicycle
  intro s t fuel is hrst hadm hd hsch hupc hexp hrun
  simp only [expandLine, hsch] at hexp
  exact pass_of_expansion ⟨hrst, hadm⟩ hd hupc (by rw [hsch]; rfl) (by rw [hsch]; rfl) hexp hrun

end Sys2Proof.Machine
end

section
/-! SUPPORT. The multiplier in closed form: the loop's shifts truncate to exactly one floor (40_mapper.md
rules R100, R101). -/

namespace Sys2Proof.Machine

theorem mulTerm_eq (a bb : Word16) (k : Nat) :
    mulTerm a bb k = a.toNat / 2 ^ k % 2 * bb.toNat := by
  rw [mulTerm, ← BitVec.testBit_toNat, Nat.testBit_eq_decide_div_mod_eq]
  obtain h | h := Nat.mod_two_eq_zero_or_one (a.toNat / 2 ^ k) <;> simp [h]

/-- What bit `k` adds to the product of the bits below it. -/
theorem mod_two_pow_succ_mul (a bb : Word16) (k : Nat) :
    a.toNat % 2 ^ (k + 1) * bb.toNat =
      a.toNat % 2 ^ k * bb.toNat + 2 ^ k * mulTerm a bb k := by
  rw [Nat.mod_pow_succ, mulTerm_eq]
  ring

/-- After `k` steps the accumulator is the product of the low `k` bits, shifted by `k` at once: a floor
of a floor is one floor. -/
theorem mulLoop_toNat (a bb : Word16) (hb : bb.toNat ≤ 0x7FFF) (k : Nat) :
    (mulLoop a bb k).r.toNat = a.toNat % 2 ^ k * bb.toNat / 2 ^ k := by
  induction k with
  | zero => simp [mulLoop, Nat.mod_one]
  | succ k ih =>
    rw [mulLoop_succ_toNat a bb hb, ih, mod_two_pow_succ_mul, pow_succ, ← Nat.div_div_eq_div_mul,
      Nat.add_mul_div_left _ _ (Nat.two_pow_pos k)]

/-- `mulhi16` is a single floor: all that it loses before it is bit 0 of `b`. -/
theorem mulhi16_eq (a b : Word16) :
    (mulhi16 a b).toNat = a.toNat * (b.toNat / 2) / 2 ^ 15 := by
  have hb := shifted_le b
  have ha : a.toNat % 2 ^ 16 = a.toNat := Nat.mod_eq_of_lt a.isLt
  rw [mulhi16_toNat, mulLoop_toNat a _ hb, ← Nat.add_mul_div_left _ _ (Nat.two_pow_pos 15),
    ← mod_two_pow_succ_mul, ha, BitVec.toNat_ushiftRight, Nat.shiftRight_eq_div_pow, pow_one]

/-- `mulhi16` is monotone in both operands. -/
theorem mulhi16_mono {a a' b b' : Word16} (ha : a ≤ a') (hb : b ≤ b') :
    mulhi16 a b ≤ mulhi16 a' b' := by
  rw [BitVec.le_def] at *
  rw [mulhi16_eq, mulhi16_eq]
  gcongr

/-- `mulhi16` is below its first operand, unless that is 0 (40_mapper.md rule R105). -/
theorem mulhi16_toNat_le (a b : Word16) : (mulhi16 a b).toNat ≤ max a.toNat 1 - 1 := by
  have hb : b.toNat / 2 ≤ 32767 := by have := b.isLt; omega
  have hab := Nat.mul_le_mul_left a.toNat hb
  rw [mulhi16_eq]
  omega

theorem mulAdd_r (a bb : Word16) (k : Nat) (acc : MulAcc) :
    (mulAdd a bb k acc).r = if a.getLsbD k then acc.r + bb else acc.r := apply_ite MulAcc.r _ _ _

/-- An addition that is made counts as one. -/
theorem mulAdd_adds (a bb : Word16) (k : Nat) (acc : MulAcc) :
    (mulAdd a bb k acc).adds = acc.adds + if a.getLsbD k then 1 else 0 := by
  unfold mulAdd
  split <;> rfl

/-- After `k` steps the multiplier has made an addition for each set bit below `k`. -/
theorem mulLoop_adds (a bb : Word16) (k : Nat) :
    (mulLoop a bb k).adds = (List.range k).countP (fun j => a.getLsbD j) := by
  induction k with
  | zero => rfl
  | succ k ih =>
    rw [List.range_succ, List.countP_append, List.countP_singleton, ← ih]
    exact mulAdd_adds a bb k _

end Sys2Proof.Machine
end

section
/-! SUPPORT. The brightness curve: its override, its blend and its order (40_mapper.md rules R102, R106). -/

namespace Sys2Proof.Machine

/-- CURVE's one write (40_mapper.md rule R103). -/
theorem exec_curve (s : State) :
    exec .curve s = .next { s with tgt := curve s.cfg s.sl s.cl } := rfl

theorem curve_of_zero (c : Config) {l : Word16} (cl : Word16) (hl : l = 0) :
    curve c l cl = c.tgtSentinel := if_pos hl

theorem curve_of_ne_zero (c : Config) {l : Word16} (cl : Word16) (hl : l ≠ 0) :
    curve c l cl = mulhi16 (cl - c.margin) (curveBlend l) := if_neg hl

/-- Neither the blend's sum nor its inversion wraps (40_mapper.md rule R102, steps 3 and 4). -/
theorem curveBlend_toNat (l : Word16) : (curveBlend l).toNat =
    0xFFFF - ((mulhi16 (mulhi16 l l) (mulhi16 l l)).toNat / 2 + l.toNat / 2) := by
  simp only [curveBlend]
  bv_omega

/-- A brighter level gives a smaller blend. -/
theorem curveBlend_antitone {l l' : Word16} (h : l ≤ l') : curveBlend l' ≤ curveBlend l := by
  have hsquare := mulhi16_mono h h
  have hfourth := mulhi16_mono hsquare hsquare
  rw [BitVec.le_def] at *
  rw [curveBlend_toNat, curveBlend_toNat]
  omega

/-- At the dimmest level the blend is all ones: both squares are 0. -/
theorem curveBlend_one : curveBlend 1 = 0xFFFF := by decide

end Sys2Proof.Machine
end

section
/-! PROOFS. The multiplier and the brightness curve (40_mapper.md rules R100 to R106). -/

namespace Sys2Proof.Machine

/-- Settles O25: bit 0 of `b` is worth less than 1 in the high half. -/
theorem multiplierWithinOne : Obligations.MultiplierWithinOne := by
  unfold Obligations.MultiplierWithinOne trueMulhi
  intro a b
  have ha := a.isLt
  have hb : a.toNat * b.toNat = 2 * (a.toNat * (b.toNat / 2)) + a.toNat * (b.toNat % 2) := by
    conv_lhs => rw [← Nat.div_add_mod b.toNat 2]
    ring
  have hlost : a.toNat * (b.toNat % 2) ≤ a.toNat * 1 := Nat.mul_le_mul_left _ (by omega)
  rw [mulhi16_eq]
  omega

/-- Settles O26: the steps are the loop's own accumulators, and the additions its set bits. -/
theorem multiplierCarryAndCost : Obligations.MultiplierCarryAndCost := by
  unfold Obligations.MultiplierCarryAndCost
  intro a b
  have hb := shifted_le b
  refine ⟨⟨fun k => (mulLoop a (b >>> 1) k).r, rfl, fun k _ => ?_, ?_, fun k _ => ?_⟩, ?_, ?_⟩
  · rw [← mulAdd_r]; rfl
  · exact mulAdd_r a _ 15 _
  · exact (mulLoop_le a _ hb k).trans hb
  · have := mulhi16_toNat_le a b
    have := a.isLt
    omega
  · exact mulLoop_adds a (b >>> 1) 16

/-- Settles O27: half the blend is below 2^15, so the target is below the operand; at level 1 that half
is 2^15 - 1, so the target is just below. -/
theorem targetRange : Obligations.TargetRange := by
  unfold Obligations.TargetRange
  intro c l cl hl
  have ha := (cl - c.margin).isLt
  have hle := mulhi16_toNat_le (cl - c.margin) (curveBlend l)
  have hdimmest : (curve c 1 cl).toNat = (cl - c.margin).toNat * 32767 / 2 ^ 15 := by
    rw [curve_of_ne_zero c cl (by decide), mulhi16_eq, curveBlend_one]
    rfl
  rw [curve_of_ne_zero c cl hl]
  refine ⟨hle, ?_, fun h => ?_, fun h => ?_⟩
  · bv_omega
  · omega
  · bv_omega

/-- Settles O28: level 0 gives the largest word; above it the multiplier is monotone and the blend
antitone. -/
theorem brighterFiresEarlier : Obligations.BrighterFiresEarlier := by
  unfold Obligations.BrighterFiresEarlier
  intro c l l' cl hsentinel h
  by_cases hl : l = 0
  · rw [curve_of_zero c cl hl, hsentinel]
    bv_omega
  · have hl' : l' ≠ 0 := by bv_omega
    rw [curve_of_ne_zero c cl hl, curve_of_ne_zero c cl hl']
    exact mulhi16_mono (BitVec.le_refl _) (curveBlend_antitone h)

/-- Settles O24: CURVE's one write is `curve`, whose steps are written out. -/
theorem curveEffect : Obligations.CurveEffect := by
  unfold Obligations.CurveEffect
  exact ⟨exec_curve, by decide, decodeWord_encode .curve⟩

end Sys2Proof.Machine
end

section
/-! SUPPORT. The timing loop where no pulse is due (41_cycle.md rules R123, R124, R126). -/

namespace Sys2Proof.Machine

variable {s t : State}

/-- Without a pulse due CYC.ITER samples, counts and tests for the exit, and records nothing. -/
theorem exec_cycIter_of_not_due (h : fireDue s = false) :
    ∃ zcIn zcTaken zh zdone, exec .cycIter s =
      .next { s with cnt := s.cnt + 1, zcIn, zcTaken, zh, zdone } := by
  simp only [exec, execCycIter, h, sampleZeroCross_eq]
  exact ⟨_, _, _, _, rfl⟩

/-- A target that is the sentinel is never due. -/
theorem fireDue_of_sentinel (h : s.tgt = s.cfg.tgtSentinel) : fireDue s = false := by
  simp [fireDue, h]

/-- With the sentinel as target any number of iterations only counts, modulo 2^16. -/
theorem runInstrs_cycIter_of_sentinel (k : Nat) (h : s.tgt = s.cfg.tgtSentinel) :
    ∃ t, runInstrs (List.replicate k .cycIter) s = .next t ∧ t.trace = s.trace ∧
      t.fired = s.fired ∧ t.triacN = s.triacN ∧ t.cnt = s.cnt + BitVec.ofNat 16 k := by
  induction k generalizing s with
  | zero => exact ⟨s, rfl, rfl, rfl, rfl, by simp⟩
  | succ k ih =>
    obtain ⟨zcIn, zcTaken, zh, zdone, hiter⟩ := exec_cycIter_of_not_due (fireDue_of_sentinel h)
    obtain ⟨t, hrun, htrace, hfired, hgate, hcnt⟩ :=
      ih (s := { s with cnt := s.cnt + 1, zcIn, zcTaken, zh, zdone }) h
    refine ⟨t, (runInstrs_cons_next hiter).trans hrun, htrace, hfired, hgate, ?_⟩
    rw [hcnt]
    bv_omega

/-- CYC.BEGIN records no pulse. -/
theorem fireCount_of_cycBegin (h : exec .cycBegin s = .next t) :
    fireCount t.trace = fireCount s.trace := by
  simp only [exec, execCycBegin, compensate_eq] at h
  split at h <;> cases h
  · simp [fireCount]
  · rfl

end Sys2Proof.Machine
end

section
/-! PROOFS. Level 0 never fires (40_mapper.md rule R104; 41_cycle.md rule R126). -/

namespace Sys2Proof.Machine

/-- Settles O33: CURVE writes the sentinel, CYC.BEGIN leaves it, and with it the loop only counts. -/
theorem levelZeroNeverFires : Obligations.LevelZeroNeverFires := by
  unfold Obligations.LevelZeroNeverFires
  intro s k hsl
  have hcurve : exec .curve s = .next { s with tgt := s.cfg.tgtSentinel } := by
    rw [exec_curve, curve_of_zero _ _ hsl]
  obtain ⟨b, hbegin⟩ :
    ∃ b, exec .cycBegin { s with tgt := s.cfg.tgtSentinel } = .next b := ⟨_, rfl⟩
  have hcount := fireCount_of_cycBegin hbegin
  obtain ⟨es, hb⟩ := exec_cycBegin_update hbegin
  have hsentinel : b.tgt = b.cfg.tgtSentinel := by rw [hb]
  obtain ⟨t, hrun, htrace, hfired, hgate, hcnt⟩ := runInstrs_cycIter_of_sentinel k hsentinel
  rw [hb] at hfired hgate hcnt
  refine ⟨t, ?_, htrace ▸ hcount, hfired, hgate, by simpa using hcnt⟩
  exact (runInstrs_cons_next hcurve).trans ((runInstrs_cons_next hbegin).trans hrun)

end Sys2Proof.Machine
end

section
/-! SUPPORT. CYC.ITER and CYC.END each as one update of any state, in the model's own conditions
(41_cycle.md rules R124, R130). -/

namespace Sys2Proof.Machine

variable (s : State)

/-- The sample as rule R125 writes it: a 1 or a 0 in bit 0 of the shifted history. -/
theorem shiftIn_eq (r : Byte) (b : Bool) : shiftIn r b = (r <<< 1) ||| (if b then 1 else 0) := by
  cases b <;> rfl

/-- CYC.ITER: the sample, the count and the exit test are the same with a pulse and without one. -/
theorem exec_cycIter_eq : exec .cycIter s = .next
    { s with
      trace := if fireDue s then s.trace ++ [.fire s.sc s.cnt, .pulseEnd] else s.trace
      triacN := if fireDue s then true else s.triacN
      fired := if fireDue s then true else s.fired
      cnt := (if fireDue s then s.cnt + s.cfg.fireComp else s.cnt) + 1
      zh := shiftIn s.zh (pinLevel .zcIn s)
      zdone := s.zdone || shiftIn s.zh (pinLevel .zcIn s) == expPattern s.ph
      zcIn := s.zcIn.tail
      zcTaken := s.zcTaken + 1 } := by
  simp only [exec, execCycIter, sampleZeroCross_eq, firePulse_eq]
  cases fireDue s <;> rfl

/-- CYC.END: CL by the snap or by the tracking, and then the phase, the Tick and the count. -/
theorem exec_cycEnd_eq : exec .cycEnd s = .next
    { s with
      cl := if snapDue s then s.cnt else trackedLength s
      caldone := if snapDue s then true else s.caldone
      ph := !s.ph
      trace := s.trace ++ [.tick s.sc]
      sc := s.sc + 1 } := by
  simp only [exec, execCycEnd]
  cases snapDue s <;> rfl

end Sys2Proof.Machine
end

section
/-! PROOFS. The three micro-operations of the timing loop: what each writes, and that it writes nothing
else (41_cycle.md rules R123, R124, R130). -/

namespace Sys2Proof.Machine

/-- Settles O29: the compensating delay is one event, and is there on one phase only. -/
theorem cycBeginEffect : Obligations.CycBeginEffect := by
  unfold Obligations.CycBeginEffect
  refine ⟨decodeWord_encode .cycBegin, fun s => ?_⟩
  simp only [exec, execCycBegin, compensate_eq]
  split <;> rfl

/-- Settles O30: the update of CYC.ITER, its conditions written out. -/
theorem cycIterEffect : Obligations.CycIterEffect := by
  unfold Obligations.CycIterEffect
  refine ⟨decodeWord_encode .cycIter, fun s => ?_⟩
  have hexit (z : Bool) (x : Byte) :
      (z || x == expPattern s.ph) = if x = (if s.ph then 0x00 else 0xFF) then true else z := by
    by_cases hx : x = expPattern s.ph <;> simp_all [expPattern]
  simp only [exec_cycIter_eq, fireDue_iff, hexit, shiftIn_eq]

/-- Settles O31: the update of CYC.END, its conditions written out. -/
theorem cycEndEffect : Obligations.CycEndEffect := by
  unfold Obligations.CycEndEffect
  refine ⟨decodeWord_encode .cycEnd, fun s => ?_⟩
  simp only [exec_cycEnd_eq, snapDue_iff, trackedLength]

end Sys2Proof.Machine
end

section
/-! SUPPORT. CL over any number of CYC.ENDs: tracking once calibrated, and the ticks of the calibration
before its snap (41_cycle.md rules R130, R131). -/

namespace Sys2Proof.Machine

variable {s t : State}

theorem runEnds_cons_next {c : Word16} (cs : List Word16)
    (h : exec .cycEnd { s with cnt := c } = .next t) : runEnds (c :: cs) s = runEnds cs t := by
  simp [runEnds, h]

theorem runEnds_append_next {cs ds : List Word16} (h : runEnds cs s = .next t) :
    runEnds (cs ++ ds) s = runEnds ds t := by
  induction cs generalizing s with
  | nil => cases h; rfl
  | cons c cs ih =>
    obtain ⟨u, hu⟩ : ∃ u, exec .cycEnd { s with cnt := c } = .next u := ⟨_, rfl⟩
    rw [runEnds_cons_next cs hu] at h
    rw [List.cons_append, runEnds_cons_next _ hu, ih h]

/-- The tracked length on exact numbers: one toward CNT, stopping at it. -/
theorem trackedLength_toNat (s : State) : (trackedLength s).toNat =
    if s.cl.toNat ≤ s.cnt.toNat then min (s.cl.toNat + 1) s.cnt.toNat
    else max (s.cl.toNat - 1) s.cnt.toNat := by
  obtain h | h | h := Nat.lt_trichotomy s.cnt.toNat s.cl.toNat
  · have hdown : (s.cl - 1).toNat = s.cl.toNat - 1 := by bv_omega
    rw [trackedLength, if_pos (BitVec.lt_def.2 h), if_neg (Nat.not_le.2 h)]
    omega
  · simp [trackedLength, BitVec.lt_def, h]
  · have hup : (s.cl + 1).toNat = s.cl.toNat + 1 := by bv_omega
    rw [trackedLength, if_neg (by bv_omega), if_pos (BitVec.lt_def.2 h), if_pos h.le]
    omega

/-! ### Calibrated -/

/-- Once calibrated a CYC.END tracks its count and stays calibrated. -/
theorem exec_cycEnd_of_calibrated (hs : s.caldone = true) (c : Word16) :
    ∃ t, exec .cycEnd { s with cnt := c } = .next t ∧ t.caldone = true ∧
      t.cl = trackedLength { s with cnt := c } := by
  refine ⟨_, exec_cycEnd_eq _, ?_⟩
  simp [snapDue, hs]

/-- Once calibrated, CL under a constant count in closed form. -/
theorem runEnds_replicate (n : Word16) (k : Nat) (hs : s.caldone = true) :
    ∃ t, runEnds (List.replicate k n) s = .next t ∧ t.caldone = true ∧
      t.cl.toNat = if s.cl.toNat ≤ n.toNat then min (s.cl.toNat + k) n.toNat
        else max (s.cl.toNat - k) n.toNat := by
  induction k generalizing s with
  | zero => exact ⟨s, rfl, hs, by split <;> omega⟩
  | succ k ih =>
    obtain ⟨u, hu, hdone, hcl⟩ := exec_cycEnd_of_calibrated hs n
    obtain ⟨t, ht, htdone, htcl⟩ := ih hdone
    refine ⟨t, (runEnds_cons_next _ hu).trans ht, htdone, ?_⟩
    rw [htcl, hcl, trackedLength_toNat]
    dsimp only
    split <;> split <;> omega

/-- Once calibrated, a range of counts that CL is in keeps it. -/
theorem runEnds_stays_among {lo hi : Word16} {cs : List Word16} (hs : s.caldone = true)
    (hlo : lo ≤ s.cl) (hhi : s.cl ≤ hi) (hcs : ∀ c ∈ cs, lo ≤ c ∧ c ≤ hi) :
    ∃ t, runEnds cs s = .next t ∧ t.caldone = true ∧ lo ≤ t.cl ∧ t.cl ≤ hi := by
  induction cs generalizing s with
  | nil => exact ⟨s, rfl, hs, hlo, hhi⟩
  | cons c cs ih =>
    obtain ⟨⟨hclo, hchi⟩, hcs⟩ := List.forall_mem_cons.1 hcs
    obtain ⟨u, hu, hdone, hcl⟩ := exec_cycEnd_of_calibrated hs c
    have hnear := trackedLength_toNat { s with cnt := c }
    rw [← hcl] at hnear
    dsimp only at hnear
    rw [BitVec.le_def] at hlo hhi hclo hchi
    rw [runEnds_cons_next cs hu]
    exact ih hdone (BitVec.le_def.2 (by split at hnear <;> omega))
      (BitVec.le_def.2 (by split at hnear <;> omega)) hcs

/-! ### Not yet calibrated -/

/-- The value of CL that the calibration ticks down to, where it snaps (41_cycle.md rule R131). -/
def snapLength (c : Config) : Word16 := c.clSentinel - c.calibTicks

theorem trackedLength_of_below (hc : s.cnt < s.cl) : trackedLength s = s.cl - 1 := if_pos hc

/-- With a count below CL, what is left of the snap's condition is the value that CL ticks to. -/
theorem snapDue_iff_of_below (hs : s.caldone = false) (hc : s.cnt < s.cl) :
    snapDue s = true ↔ s.cl - 1 = snapLength s.cfg := by
  have hdown : s.cl - 1 < s.cl := by bv_omega
  rw [snapDue_iff, trackedLength_of_below hc]
  exact ⟨fun ⟨_, _, h⟩ => h, fun h => ⟨hs, hdown, h⟩⟩

/-- A count below CL lets CL tick down, to any value but the snap's. -/
theorem exec_cycEnd_ticks {c : Word16} (hs : s.caldone = false) (hc : c < s.cl)
    (hne : s.cl - 1 ≠ snapLength s.cfg) :
    ∃ t, exec .cycEnd { s with cnt := c } = .next t ∧ t.cfg = s.cfg ∧ t.caldone = false ∧
      t.cl = s.cl - 1 := by
  have hsnap : ¬ snapDue { s with cnt := c } = true :=
    mt (snapDue_iff_of_below (s := { s with cnt := c }) hs hc).1 hne
  exact ⟨_, exec_cycEnd_eq _, rfl, (if_neg hsnap).trans hs,
    (if_neg hsnap).trans (trackedLength_of_below (s := { s with cnt := c }) hc)⟩

/-- Where CL would tick to the snap's value, it becomes the count. -/
theorem exec_cycEnd_snaps {c : Word16} (hs : s.caldone = false) (hc : c < s.cl)
    (heq : s.cl - 1 = snapLength s.cfg) :
    ∃ t, exec .cycEnd { s with cnt := c } = .next t ∧ t.caldone = true ∧ t.cl = c := by
  have hsnap : snapDue { s with cnt := c } = true :=
    (snapDue_iff_of_below (s := { s with cnt := c }) hs hc).2 heq
  exact ⟨_, exec_cycEnd_eq _, if_pos hsnap, if_pos hsnap⟩

/-- Counts that are no more than the snap's value tick CL down, as long as CL is still above that
value after them. -/
theorem runEnds_ticks {cs : List Word16} (hs : s.caldone = false)
    (hcl : (snapLength s.cfg).toNat + cs.length < s.cl.toNat)
    (hcs : ∀ c ∈ cs, c ≤ snapLength s.cfg) :
    ∃ t, runEnds cs s = .next t ∧ t.cfg = s.cfg ∧ t.caldone = false ∧
      t.cl.toNat + cs.length = s.cl.toNat := by
  induction cs generalizing s with
  | nil => exact ⟨s, rfl, rfl, hs, rfl⟩
  | cons c cs ih =>
    obtain ⟨hc, hcs⟩ := List.forall_mem_cons.1 hcs
    rw [List.length_cons] at hcl ⊢
    obtain ⟨u, hu, hcfg, hdone, hucl⟩ :=
      exec_cycEnd_ticks hs (c := c) (by bv_omega) (by bv_omega)
    have hnat : u.cl.toNat + 1 = s.cl.toNat := by rw [hucl]; bv_omega
    obtain ⟨t, ht, htcfg, htdone, htcl⟩ := ih hdone (by rw [hcfg]; omega) (by rwa [hcfg])
    exact ⟨t, (runEnds_cons_next cs hu).trans ht, htcfg.trans hcfg, htdone, by omega⟩

/-- One above the snap's value, a count that is no more than it is taken over. -/
theorem runEnds_snaps {c : Word16} (hs : s.caldone = false)
    (hcl : s.cl.toNat = (snapLength s.cfg).toNat + 1) (hc : c ≤ snapLength s.cfg) :
    ∃ t, runEnds [c] s = .next t ∧ t.caldone = true ∧ t.cl = c := by
  obtain ⟨t, ht, hsnap⟩ := exec_cycEnd_snaps hs (c := c) (by bv_omega) (by bv_omega)
  exact ⟨t, runEnds_cons_next [] ht, hsnap⟩

end Sys2Proof.Machine
end

section
/-! PROOFS. CL converges to a constant count, stays among varying ones, and is calibrated by one snap
(41_cycle.md rules R131, R133). -/

namespace Sys2Proof.Machine

/-- Settles O38: the closed form of CL under a constant count. -/
theorem lengthConverges : Obligations.LengthConverges := by
  unfold Obligations.LengthConverges
  intro s n k hs
  exact runEnds_replicate n k hs

/-- Settles O39: the tracking never leaves the range between CL and the count. -/
theorem lengthStaysAmongCounts : Obligations.LengthStaysAmongCounts := by
  unfold Obligations.LengthStaysAmongCounts
  intro s lo hi counts hs hlo hhi hcounts
  exact runEnds_stays_among hs hlo hhi hcounts

/-- Settles O40: CL starts CALIB_TICKS above the snap's value, and one tick less brings it next to it. -/
theorem calibrationSnaps : Obligations.CalibrationSnaps := by
  unfold Obligations.CalibrationSnaps
  intro s counts last hs hcl hlength hcounts
  have hlast := hcounts last (by simp)
  have hsnap : (snapLength s.cfg).toNat + s.cfg.calibTicks.toNat = s.cl.toNat := by
    rw [hcl]
    simp only [snapLength]
    bv_omega
  have hbelow : ∀ c ∈ counts ++ [last], c ≤ snapLength s.cfg := by
    intro c hc
    have := hcounts c hc
    rw [← hcl] at this
    rw [BitVec.le_def]
    omega
  rw [← hcl]
  refine ⟨fun k hk => ?_, ?_⟩
  · have htake : (counts.take k).length = k := List.length_take_of_le hk
    obtain ⟨t, ht, -, hdone, htcl⟩ := runEnds_ticks hs (cs := counts.take k) (by omega)
      (fun c hc => hbelow c (List.mem_append_left _ (List.mem_of_mem_take hc)))
    exact ⟨t, ht, hdone, by rwa [htake] at htcl⟩
  · obtain ⟨u, hu, hcfg, hdone, hucl⟩ := runEnds_ticks hs (cs := counts) (by omega)
      (fun c hc => hbelow c (List.mem_append_left _ hc))
    rw [runEnds_append_next hu]
    exact runEnds_snaps hdone (by rw [hcfg]; omega) (by rw [hcfg]; exact hbelow last (by simp))

end Sys2Proof.Machine
end

section
/-! SUPPORT. The timing loop around its one pulse: it only counts before the target and after the pulse
(41_cycle.md rules R126, R127, R134). -/

namespace Sys2Proof.Machine

variable {s t : State}

/-- With a pulse due CYC.ITER records it, adds FIRE_COMP to the count, and sets FIRED. -/
theorem exec_cycIter_of_due (h : fireDue s = true) :
    ∃ t, exec .cycIter s = .next t ∧ t.fired = true ∧
      t.trace = s.trace ++ [.fire s.sc s.cnt, .pulseEnd] ∧ t.cnt = s.cnt + s.cfg.fireComp + 1 := by
  refine ⟨_, exec_cycIter_eq s, ?_⟩
  simp [h]

/-- Iterations at none of whose counts a pulse is due only count, modulo 2^16. -/
theorem runInstrs_cycIter_of_not_due (k : Nat)
    (h : ∀ j < k, fireDue { s with cnt := s.cnt + BitVec.ofNat 16 j } = false) :
    ∃ zcIn zcTaken zh zdone, runInstrs (List.replicate k .cycIter) s = .next
      { s with cnt := s.cnt + BitVec.ofNat 16 k, zcIn, zcTaken, zh, zdone } := by
  induction k generalizing s with
  | zero => exact ⟨s.zcIn, s.zcTaken, s.zh, s.zdone, by simp [runInstrs]⟩
  | succ k ih =>
    have hnow : fireDue s = false := by simpa using h 0 (Nat.succ_pos k)
    have hcount (j : Nat) : s.cnt + 1 + BitVec.ofNat 16 j = s.cnt + BitVec.ofNat 16 (j + 1) := by
      bv_omega
    obtain ⟨zcIn, zcTaken, zh, zdone, hiter⟩ := exec_cycIter_of_not_due hnow
    obtain ⟨zcIn', zcTaken', zh', zdone', hrun⟩ :=
      ih (s := { s with cnt := s.cnt + 1, zcIn, zcTaken, zh, zdone })
        (fun j hj => by rw [hcount]; exact h (j + 1) (Nat.succ_lt_succ hj))
    refine ⟨zcIn', zcTaken', zh', zdone', ?_⟩
    rw [List.replicate_succ, runInstrs_cons_next hiter, hrun, hcount]

/-- From CNT = 0 no pulse is due in the first T iterations. -/
theorem runInstrs_cycIter_before_target {k : Nat} (hk : k ≤ s.tgt.toNat) (hcnt : s.cnt = 0) :
    ∃ zcIn zcTaken zh zdone, runInstrs (List.replicate k .cycIter) s = .next
      { s with cnt := BitVec.ofNat 16 k, zcIn, zcTaken, zh, zdone } := by
  have hrun := runInstrs_cycIter_of_not_due (s := s) k fun j hj => by
    have hne : BitVec.ofNat 16 j ≠ s.tgt := by bv_omega
    simp [fireDue, hcnt, hne]
  simpa [hcnt] using hrun

/-- After the pulse no other is due, across every wrap of CNT. -/
theorem runInstrs_cycIter_of_fired (k : Nat) (h : s.fired = true) :
    ∃ zcIn zcTaken zh zdone, runInstrs (List.replicate k .cycIter) s = .next
      { s with cnt := s.cnt + BitVec.ofNat 16 k, zcIn, zcTaken, zh, zdone } :=
  runInstrs_cycIter_of_not_due k fun _ _ => by simp [fireDue, h]

/-- From CNT = 0 and FIRED = 0 the (T+1)-th iteration fires, and the later ones only count. -/
theorem runInstrs_cycIter_past_target (j : Nat) (hcnt : s.cnt = 0) (hfired : s.fired = false)
    (htgt : s.tgt ≠ s.cfg.tgtSentinel) :
    ∃ t, runInstrs (List.replicate (s.tgt.toNat + (j + 1)) .cycIter) s = .next t ∧
      t.fired = true ∧ t.trace = s.trace ++ [.fire s.sc s.tgt, .pulseEnd] ∧
      t.cnt = BitVec.ofNat 16 (s.tgt.toNat + (j + 1)) + s.cfg.fireComp := by
  obtain ⟨zcIn, zcTaken, zh, zdone, hbefore⟩ :=
    runInstrs_cycIter_before_target (s := s) (Nat.le_refl _) hcnt
  rw [BitVec.ofNat_toNat, BitVec.setWidth_eq] at hbefore
  obtain ⟨t, hpulse, hdone, htrace, hcount⟩ := exec_cycIter_of_due
    (s := { s with cnt := s.tgt, zcIn, zcTaken, zh, zdone }) (by simp [fireDue, hfired, htgt])
  obtain ⟨_, _, _, _, hafter⟩ := runInstrs_cycIter_of_fired j hdone
  rw [List.replicate_add, runInstrs_append_next hbefore, List.replicate_succ,
    runInstrs_cons_next hpulse, hafter]
  exact ⟨_, rfl, hdone, htrace, by rw [hcount]; bv_omega⟩

/-- From CNT = 0 and FIRED = 0 there is one pulse, if the target is passed, and none before. -/
theorem runInstrs_cycIter_fires_once (k : Nat) (hcnt : s.cnt = 0) (hfired : s.fired = false)
    (htgt : s.tgt ≠ s.cfg.tgtSentinel) :
    ∃ t, runInstrs (List.replicate k .cycIter) s = .next t ∧
      t.fired = decide (s.tgt.toNat < k) ∧
      t.trace = s.trace ++ (if s.tgt.toNat < k then [.fire s.sc s.tgt, .pulseEnd] else []) ∧
      t.cnt = BitVec.ofNat 16 k + (if s.tgt.toNat < k then s.cfg.fireComp else 0) := by
  by_cases hk : s.tgt.toNat < k
  · obtain ⟨j, rfl⟩ : ∃ j, k = s.tgt.toNat + (j + 1) := ⟨k - s.tgt.toNat - 1, by omega⟩
    simpa only [hk, decide_true, if_true] using runInstrs_cycIter_past_target j hcnt hfired htgt
  · obtain ⟨_, _, _, _, hrun⟩ := runInstrs_cycIter_before_target (Nat.not_lt.1 hk) hcnt
    exact ⟨_, hrun, by simp [hk, hfired], by simp [hk], by simp [hk]⟩

end Sys2Proof.Machine
end

section
/-! PROOFS. One pulse in a semicycle, at the target (41_cycle.md rule R126). -/

namespace Sys2Proof.Machine

/-- Settles O32: CYC.BEGIN clears CNT and FIRED, and from there the loop fires once. -/
theorem firesOnceAtTarget : Obligations.FiresOnceAtTarget := by
  unfold Obligations.FiresOnceAtTarget
  intro s k htgt
  obtain ⟨b, hbegin⟩ : ∃ b, exec .cycBegin s = .next b := ⟨_, rfl⟩
  obtain ⟨es, rfl⟩ := exec_cycBegin_update hbegin
  obtain ⟨t, hrun, hfired, htrace, hcnt⟩ := runInstrs_cycIter_fires_once
    (s := { s with cnt := 0, fired := false, zdone := false, trace := s.trace ++ es })
    k rfl rfl htgt
  exact ⟨_, t, hbegin, (runInstrs_cons_next hbegin).trans hrun, hfired, htrace, hcnt⟩

end Sys2Proof.Machine
end

section
/-! SUPPORT. The zero-cross history as the samples fill it (20_memory.md rule R62; 41_cycle.md rules
R121, R128, R129). -/

namespace Sys2Proof.Machine

variable {s : State}

/-- EXP(PH) is the one level that ends the loop in every bit. -/
theorem eq_expPattern_iff (x : Byte) (ph : Bool) :
    x = expPattern ph ↔ ∀ j < 8, x.getLsbD j = exitLevel ph := by
  have hbits : ∀ j < 8, (expPattern ph).getLsbD j = exitLevel ph := by cases ph <;> decide
  constructor
  · rintro rfl
    exact hbits
  · intro h
    exact BitVec.eq_of_getLsbD_eq fun j hj => (h j hj).trans (hbits j hj).symm

/-- The zero-cross history after the next `n` samples of `zc_in`. -/
def zhAfter (s : State) : Nat → Byte
  | 0 => s.zh
  | n + 1 => shiftIn (zhAfter s n) (zcSample s n)

/-- Bit `j` is the sample taken `j` before the last one, or a bit of the old history. -/
theorem zhAfter_getLsbD (s : State) (n : Nat) {j : Nat} (hj : j < 8) :
    (zhAfter s n).getLsbD j =
      if j < n then zcSample s (n - 1 - j) else s.zh.getLsbD (j - n) := by
  induction n generalizing j with
  | zero => rfl
  | succ n ih =>
    rw [zhAfter, shiftIn_getLsbD _ _ _ hj]
    cases j with
    | zero => simp
    | succ j =>
      have hsample : n + 1 - 1 - (j + 1) = n - 1 - j := by omega
      have hold : j + 1 - (n + 1) = j - n := by omega
      rw [hsample, hold, if_neg (Nat.succ_ne_zero j), Nat.add_sub_cancel, ih (by omega)]
      simp only [Nat.add_lt_add_iff_right]

/-- After eight samples or more the history is EXP(PH) exactly if the last eight were all its level. -/
theorem zhAfter_eq_expPattern_iff (k : Nat) :
    zhAfter s (k + 8) = expPattern s.ph ↔ exitSuppliedAt s k := by
  rw [eq_expPattern_iff]
  have hbit : ∀ j < 8, (zhAfter s (k + 8)).getLsbD j = zcSample s (k + (7 - j)) := by
    intro j hj
    rw [zhAfter_getLsbD s _ hj, if_pos (by omega), show k + 8 - 1 - j = k + (7 - j) by omega]
  constructor
  · intro h j hj
    have := hbit (7 - j) (by omega)
    rw [h (7 - j) (by omega), show 7 - (7 - j) = j by omega] at this
    exact this.symm
  · intro h j hj
    rw [hbit j hj, h (7 - j) (by omega)]

/-- From the last semicycle's pattern fewer than eight samples do not make EXP(PH): an old bit is left. -/
theorem eight_le_of_zhAfter {n : Nat} (hzh : s.zh = expPattern (!s.ph))
    (h : zhAfter s n = expPattern s.ph) : 8 ≤ n := by
  by_contra hn
  have hold := (eq_expPattern_iff _ _).1 hzh 0 (by omega)
  have hnew := (eq_expPattern_iff _ _).1 h n (by omega)
  rw [zhAfter_getLsbD s n (by omega), if_neg (Nat.lt_irrefl n), Nat.sub_self, hold] at hnew
  revert hnew
  cases s.ph <;> decide

end Sys2Proof.Machine
end

section
/-! SUPPORT. The micro-sequencer's steps in the timing loop: each shifts the next sample in and leaves
the loop exactly if the history is then EXP(PH) (30_encoding.md rule R87; 41_cycle.md rule R128). -/

namespace Sys2Proof.Machine

variable {s t : State} {n : Nat}

theorem pinLevel_zcIn_eq (s : State) : pinLevel .zcIn s = zcSample s 0 := by
  unfold zcSample pinLevel
  cases s.zcIn <;> rfl

/-- Once a sample is taken, the next one is the first still to come. -/
theorem zcSample_of_taken (hin : t.zcIn = s.zcIn.tail) (htaken : t.zcTaken = s.zcTaken + 1) (k : Nat) :
    zcSample t k = zcSample s (1 + k) := by
  unfold zcSample
  rw [hin, htaken, Nat.add_assoc, Nat.add_comm 1 k]
  cases s.zcIn <;> rfl

theorem rstLevel_of_low (h : rstStaysLow s) : rstLevel s = false := by
  unfold rstLevel
  cases hr : s.rstIn with
  | nil => rfl
  | cons b bs => exact h b (by simp [hr])

/-- At step 3 a running block's step is CYC.ITER and the uPC update. -/
theorem step_is_cycIter (hs : s.Running) (h3 : s.upc = 3) :
    ∃ u, exec .cycIter (afterRst s) = .next u ∧ step s = .next (advanceUpc u) := by
  obtain ⟨u, hu⟩ := exec_cycIter_next (afterRst s)
  have hw : fetchWord s = some (encode .cycIter) := by
    rw [fetchWord, h3]
    rfl
  refine ⟨u, hu, ?_⟩
  rw [step_of_scheduled (rstLevel_of_low hs.rstLow) hs.admitted hs.sequenced hw
    (decodeWord_encode .cycIter), hu]
  rfl

/-- What a step in the loop does to the history, ZDONE and uPC, and that it leaves the block running. -/
theorem step_in_loop (hs : s.Running) (h3 : s.upc = 3) (hz : s.zdone = false) :
    ∃ t, step s = .next t ∧ t.Running ∧ t.zh = shiftIn s.zh (zcSample s 0) ∧
      t.zdone = (t.zh == expPattern s.ph) ∧ t.upc = (if t.zdone then 4 else 3) ∧
      (∀ k, zcSample t k = zcSample s (1 + k)) ∧ t.ph = s.ph ∧ t.sc = s.sc := by
  obtain ⟨u, hu, hstep⟩ := step_is_cycIter hs h3
  have hadm : admission u = none := (exec_keeps_admission hu).trans hs.admitted
  have hpin : pinLevel .zcIn (afterRst s) = zcSample s 0 := pinLevel_zcIn_eq s
  obtain ⟨_, _, _, _, -, rfl⟩ := exec_cycIter_update hu
  rw [hpin] at hstep hadm
  refine ⟨_, hstep, ⟨?_, hadm, hs.sequenced⟩, rfl, by simp [hz], by simp [nextUpc, h3],
    zcSample_of_taken rfl rfl, rfl, rfl⟩
  exact fun b hb => hs.rstLow b (List.mem_of_mem_tail hb)

/-- `t` is the state after `n` steps of the loop, all of which stayed in it: the samples that they
took are in its history. -/
structure InLoop (s : State) (n : Nat) (t : State) : Prop where
  run : runSteps n s = .next t
  running : t.Running
  atIter : t.upc = 3
  notDone : t.zdone = false
  history : t.zh = zhAfter s n
  samples : ∀ k, zcSample t k = zcSample s (n + k)
  phase : t.ph = s.ph
  semicycle : t.sc = s.sc

/-- `t` is the state after `n` steps of the loop, the last of which left it. -/
structure LeftLoop (s : State) (n : Nat) (t : State) : Prop where
  run : runSteps n s = .next t
  atEnd : t.upc = 4
  done : t.zdone = true
  history : t.zh = zhAfter s n
  exit : zhAfter s n = expPattern s.ph
  phase : t.ph = s.ph
  semicycle : t.sc = s.sc

theorem inLoop_zero (hs : s.Running) (h3 : s.upc = 3) (hz : s.zdone = false) : InLoop s 0 s :=
  ⟨rfl, hs, h3, hz, rfl, fun k => by rw [Nat.zero_add], rfl, rfl⟩

/-- One more step of the loop: it leaves the loop exactly if the history is then EXP(PH). -/
theorem InLoop.next (h : InLoop s n t) :
    ∃ u, if zhAfter s (n + 1) = expPattern s.ph then LeftLoop s (n + 1) u else InLoop s (n + 1) u := by
  obtain ⟨u, hstep, hrunning, hzh, hdone, hupc, hsamples, hph, hsc⟩ :=
    step_in_loop h.running h.atIter h.notDone
  have hrun : runSteps (n + 1) s = .next u := by
    rw [runSteps_add_next h.run, runSteps_succ_next hstep]; rfl
  rw [h.history, h.samples] at hzh
  rw [hzh, h.phase] at hdone
  rw [h.phase] at hph
  rw [h.semicycle] at hsc
  refine ⟨u, ?_⟩
  split
  case isTrue hexit =>
    have hdone : u.zdone = true := hdone.trans (beq_iff_eq.2 hexit)
    exact ⟨hrun, by simp [hupc, hdone], hdone, hzh, hexit, hph, hsc⟩
  case isFalse hexit =>
    have hdone : u.zdone = false := hdone.trans (beq_eq_false_iff_ne.2 hexit)
    refine ⟨hrun, hrunning, by simp [hupc, hdone], hdone, hzh, fun k => ?_, hph, hsc⟩
    rw [hsamples, h.samples, Nat.add_assoc]

/-- After `n` steps from inside the loop the block is still in it, or one of them left it. -/
theorem inLoop_or_left (hs : s.Running) (h3 : s.upc = 3) (hz : s.zdone = false) (n : Nat) :
    (∃ t, InLoop s n t) ∨ ∃ m t, 1 ≤ m ∧ m ≤ n ∧ LeftLoop s m t := by
  induction n with
  | zero => exact .inl ⟨s, inLoop_zero hs h3 hz⟩
  | succ n ih =>
    obtain ⟨t, ht⟩ | ⟨m, t, hm, hmn, ht⟩ := ih
    · obtain ⟨u, hu⟩ := ht.next
      split at hu
      · exact .inr ⟨n + 1, u, Nat.succ_pos n, Nat.le_refl _, hu⟩
      · exact .inl ⟨u, hu⟩
    · exact .inr ⟨m, t, hm, Nat.le_succ_of_le hmn, ht⟩

end Sys2Proof.Machine
end

section
/-! PROOFS. When the loop is left: within k + 8 iterations under EA1, and only after eight samples in a
row of the new level (41_cycle.md rules R128, R129; 60_exceptions.md rule R207). -/

namespace Sys2Proof.Machine

/-- Settles O34: the (k+8)-th step, if the loop was not left before it, finds EXP(PH) in the history. -/
theorem loopEndsUnderEA1 : Obligations.LoopEndsUnderEA1 := by
  unfold Obligations.LoopEndsUnderEA1
  intro s k hs h3 hz hsupplied
  have hexit : zhAfter s (k + 8) = expPattern s.ph := (zhAfter_eq_expPattern_iff k).2 hsupplied
  obtain ⟨n, t, hn, hnk, ht⟩ : ∃ n t, 1 ≤ n ∧ n ≤ k + 8 ∧ LeftLoop s n t := by
    obtain ⟨t, ht⟩ | ⟨m, t, hm, hmk, ht⟩ := inLoop_or_left hs h3 hz (k + 7)
    · obtain ⟨u, hu⟩ := ht.next
      rw [if_pos hexit] at hu
      exact ⟨k + 8, u, by omega, Nat.le_refl _, hu⟩
    · exact ⟨m, t, hm, by omega, ht⟩
  exact ⟨n, t, hn, hnk, ht.run, ht.atEnd, ht.done, ht.history.trans ht.exit, ht.phase, ht.semicycle⟩

/-- Settles O35: the n-th step is the one that left the loop, so the history is then EXP(PH), which
takes eight samples from the last semicycle's pattern. -/
theorem loopLeftAfterEightSamples : Obligations.LoopLeftAfterEightSamples := by
  unfold Obligations.LoopLeftAfterEightSamples
  intro s t n hs h3 hz hzh hinside hrun h4
  have hexit : zhAfter s n = expPattern s.ph := by
    obtain ⟨u, hu⟩ | ⟨m, u, -, hmn, hu⟩ := inLoop_or_left hs h3 hz n
    · -- still in the loop after n steps, against uPC = 4
      cases hrun.symm.trans hu.run
      have := hu.atIter
      simp [h4] at this
    obtain hmn | rfl := Nat.lt_or_eq_of_le hmn
    · -- left before the n-th step, against uPC = 3 until then
      obtain ⟨v, hv, hv3⟩ := hinside m hmn
      cases hv.symm.trans hu.run
      have := hu.atEnd
      simp [hv3] at this
    · exact hu.exit
  have hn : 8 ≤ n := eight_le_of_zhAfter hzh hexit
  refine ⟨hn, (zhAfter_eq_expPattern_iff (n - 8)).1 ?_⟩
  rwa [Nat.sub_add_cancel hn]

end Sys2Proof.Machine
end

section
/-! SUPPORT. The button history as the samples fill it, and PRESS after any number of polls
(20_memory.md rule R62; 42_button.md rule R150). -/

namespace Sys2Proof.Machine

variable {s : State}

/-- BTN.POLL as one update of any state: one sample into BH, and PRESS by the new BH. -/
theorem exec_btnPoll_eq (s : State) : exec .btnPoll s = .next
    { s with
      bh := shiftIn s.bh (pinLevel .btnIn s)
      press := pressDetected s.cfg (shiftIn s.bh (pinLevel .btnIn s))
      btnIn := s.btnIn.tail
      btnTaken := s.btnTaken + 1 } := rfl

/-- The button history `bh` after the samples of a list, the oldest first. -/
def bhAfter (bh : Byte) (samples : List Bool) : Byte := samples.foldl shiftIn bh

theorem bhAfter_concat (bh : Byte) (samples : List Bool) (b : Bool) :
    bhAfter bh (samples ++ [b]) = shiftIn (bhAfter bh samples) b := by
  simp [bhAfter]

/-- Bit `j` is the sample taken `j` before the last one, or a bit of the old history. -/
theorem bhAfter_getLsbD (bh : Byte) (samples : List Bool) {j : Nat} (hj : j < 8) :
    (bhAfter bh samples).getLsbD j =
      samples.reverse[j]?.getD (bh.getLsbD (j - samples.length)) := by
  induction samples using List.reverseRecOn generalizing j with
  | nil => simp [bhAfter]
  | append_singleton samples b ih =>
    rw [bhAfter_concat, shiftIn_getLsbD _ _ _ hj]
    cases j with
    | zero => simp
    | succ j => simp [ih (Nat.lt_of_succ_lt hj)]

/-- A shift makes the history 0x01 exactly if it shifts a 1 in above seven 0s. -/
theorem shiftIn_eq_one_iff (bh : Byte) (b : Bool) :
    shiftIn bh b = 0x01 ↔ b = true ∧ ∀ j < 7, bh.getLsbD j = false := by
  have hone : ∀ j < 8, (0x01 : Byte).getLsbD j = decide (j = 0) := by decide
  constructor
  · intro h
    have hbit : ∀ j < 8, (if j = 0 then b else bh.getLsbD (j - 1)) = decide (j = 0) :=
      fun j hj => by rw [← shiftIn_getLsbD bh b j hj, h, hone j hj]
    exact ⟨by simpa using hbit 0 (by omega), fun j hj => by simpa using hbit (j + 1) (by omega)⟩
  · rintro ⟨rfl, hzero⟩
    refine BitVec.eq_of_getLsbD_eq fun j hj => ?_
    rw [shiftIn_getLsbD _ _ _ hj, hone j hj]
    cases j with
    | zero => rfl
    | succ j => simp [hzero j (by omega)]

/-- The first `n` samples are all 0, also where fewer than `n` are listed: past the end counts as 0. -/
theorem all_not_take_iff (samples : List Bool) (n : Nat) :
    (samples.take n).all (fun b => !b) = true ↔ ∀ j < n, samples[j]?.getD false = false := by
  induction samples generalizing n with
  | nil => simp
  | cons b samples ih =>
    cases n with
    | zero => simp
    | succ n =>
      rw [List.take_succ_cons, List.all_cons, Bool.and_eq_true, ih, Nat.forall_lt_succ_left]
      simp

/-- A poll takes the first listed sample into BH and sets PRESS by the new BH. -/
theorem exec_btnPoll_of_listed {b : Bool} {rest : List Bool} (h : s.btnIn = b :: rest) :
    ∃ t, exec .btnPoll s = .next t ∧ t.cfg = s.cfg ∧ t.btnIn = rest ∧ t.bh = shiftIn s.bh b ∧
      t.press = pressDetected s.cfg (shiftIn s.bh b) := by
  have hpin : pinLevel .btnIn s = b := by simp [pinLevel, h]
  have hpoll := exec_btnPoll_eq s
  rw [hpin, h] at hpoll
  exact ⟨_, hpoll, rfl, rfl, rfl, rfl⟩

/-- Polls take the listed samples, one each, into BH. -/
theorem runInstrs_btnPoll_history {samples rest : List Bool} (h : s.btnIn = samples ++ rest) :
    ∃ t, runInstrs (List.replicate samples.length .btnPoll) s = .next t ∧ t.cfg = s.cfg ∧
      t.btnIn = rest ∧ t.bh = bhAfter s.bh samples := by
  induction samples generalizing s with
  | nil => exact ⟨s, rfl, rfl, h, rfl⟩
  | cons b samples ih =>
    obtain ⟨u, hpoll, hucfg, hleft, hubh, -⟩ := exec_btnPoll_of_listed h
    obtain ⟨t, hrun, hcfg, hrest, hbh⟩ := ih hleft
    refine ⟨t, (runInstrs_cons_next hpoll).trans hrun, hcfg.trans hucfg, hrest, ?_⟩
    rw [hbh, hubh]
    rfl

/-- The last of any number of polls sets PRESS by the history of all their samples. -/
theorem runInstrs_btnPoll_press {before : List Bool} {sample : Bool}
    (h : s.btnIn = before ++ [sample]) :
    ∃ t, runInstrs (List.replicate (before.length + 1) .btnPoll) s = .next t ∧
      t.press = pressDetected s.cfg (shiftIn (bhAfter s.bh before) sample) := by
  obtain ⟨u, hrun, hcfg, hlast, hbh⟩ := runInstrs_btnPoll_history h
  obtain ⟨t, hpoll, -, -, -, hpress⟩ := exec_btnPoll_of_listed hlast
  rw [hcfg, hbh] at hpress
  rw [List.replicate_succ', runInstrs_append_next hrun]
  exact ⟨t, runInstrs_cons_next hpoll, hpress⟩

end Sys2Proof.Machine
end

section
/-! PROOFS. The button: BTN.POLL itself, and PRESS as one report of each press (42_button.md rules
R150, R151). -/

namespace Sys2Proof.Machine

/-- Settles O41: the update of BTN.POLL, its shift and its condition written out. -/
theorem btnPollEffect : Obligations.BtnPollEffect := by
  unfold Obligations.BtnPollEffect
  refine ⟨decodeWord_encode .btnPoll, fun s => ?_⟩
  rw [exec_btnPoll_eq, shiftIn_eq]
  rfl

/-- Settles O42: BH is 0x01 exactly if a 1 was shifted in above seven 0s, which from BH = 0x00 are the
samples before it. -/
theorem pressIsAFreshEdge : Obligations.PressIsAFreshEdge := by
  unfold Obligations.PressIsAFreshEdge
  intro s before sample hbh hpattern hin
  obtain ⟨t, hrun, hpress⟩ := runInstrs_btnPoll_press hin
  refine ⟨t, hrun, ?_⟩
  have hreleased : (∀ j < 7, (bhAfter 0x00 before).getLsbD j = false) ↔
      (before.reverse.take 7).all (fun b => !b) = true := by
    rw [all_not_take_iff]
    refine forall₂_congr fun j hj => ?_
    simp [bhAfter_getLsbD _ _ (Nat.lt_succ_of_lt hj)]
  rw [hpress, Bool.eq_iff_iff, pressDetected, beq_iff_eq, hbh, hpattern, shiftIn_eq_one_iff,
    hreleased, Bool.and_eq_true]

/-- Settles O43: before the last poll bit 0 of BH is 1, from the reported press itself or from a held
sample, and the last shift leaves it above the new sample. -/
theorem heldPressReportedOnce : Obligations.HeldPressReportedOnce := by
  unfold Obligations.HeldPressReportedOnce
  intro s n hbh hpattern hin
  rw [List.replicate_succ'] at hin
  obtain ⟨t, hrun, hpress⟩ := runInstrs_btnPoll_press hin
  rw [List.length_replicate] at hrun
  refine ⟨t, hrun, ?_⟩
  have hheld : (bhAfter 0x01 (List.replicate n true)).getLsbD 0 = true := by
    rw [bhAfter_getLsbD _ _ (by omega)]
    cases n <;> simp
  rw [hpress, pressDetected, beq_eq_false_iff_ne, hbh, hpattern, Ne, shiftIn_eq_one_iff]
  rintro ⟨-, hreleased⟩
  exact Bool.false_ne_true ((hreleased 0 (by omega)).symm.trans hheld)

end Sys2Proof.Machine
end

section
/-! SUPPORT. The state without what the blinker alone writes: LS, LE, `led` and the Led events. Nothing
else that the block does depends on them (43_blink.md rule R163). -/

namespace Sys2Proof.Machine

/-- An event of some other unit than the blinker. -/
def otherThanLed (e : Event) : Bool := e != .led true && e != .led false

/-- The state with the blinker's own registers and pin cleared and its events dropped. -/
def State.blind (s : State) : State :=
  { s with ls := false, le := 0, led := false, trace := s.trace.filter otherThanLed }

@[simp] theorem otherThanLed_led (v : Bool) : otherThanLed (.led v) = false := by cases v <;> rfl
@[simp] theorem otherThanLed_fire (sc : Nat) (c : Word16) : otherThanLed (.fire sc c) = true := rfl
@[simp] theorem otherThanLed_pulseEnd : otherThanLed .pulseEnd = true := rfl
@[simp] theorem otherThanLed_compDelay (sc : Nat) : otherThanLed (.compDelay sc) = true := rfl
@[simp] theorem otherThanLed_tick (sc : Nat) : otherThanLed (.tick sc) = true := rfl

@[simp] theorem onNext_next (f : State → State) (s : State) : onNext f (.next s) = .next (f s) := rfl

theorem onNext_eq_next {f : State → State} {o : Host.Outcome State Fault Refusal} {t : State}
    (h : onNext f o = .next t) : ∃ s, o = .next s ∧ f s = t := by
  cases o with
  | next s => cases h; exact ⟨s, rfl, rfl⟩
  | fault r => exact nomatch r
  | refused r => cases h

theorem onNext_eq_refused {f : State → State} {o : Host.Outcome State Fault Refusal} {r : Refusal}
    (h : onNext f o = .refused r) : o = .refused r := by
  cases o <;> cases h
  rfl

/-- BLINK changes nothing but what is blinded. -/
theorem onNext_blind_exec_blink (s : State) : onNext State.blind (exec .blink s) = .next s.blind := by
  obtain ⟨t, ht⟩ : ∃ t, exec .blink s = .next t := ⟨_, rfl⟩
  obtain ⟨ls, le, rfl⟩ := exec_blink_update ht
  simp [ht, State.blind]

@[simp] theorem blind_blind (s : State) : s.blind.blind = s.blind := by
  simp [State.blind]

@[simp] theorem onNext_blind_onNext_blind (o : Host.Outcome State Fault Refusal) :
    onNext State.blind (onNext State.blind o) = onNext State.blind o := by
  cases o <;> simp [onNext]

/-- Every other micro-operation does the same with and without what is blinded: it reads nothing of it,
and no event that it records is dropped. -/
theorem exec_blind_of_ne_blink {i : Instr} (hi : i ≠ .blink) (s : State) :
    exec i s.blind = onNext State.blind (exec i s) := by
  cases i
  case blink => exact absurd rfl hi
  case curve | btnPoll | hostLoad => rfl
  case cycBegin =>
    have hcomp : (s.blind.ph = s.blind.cfg.compPhase) = (s.ph = s.cfg.compPhase) := rfl
    simp only [exec, execCycBegin, compensate_eq, hcomp]
    split <;> simp [State.blind, List.filter_cons]
  case cycIter =>
    have hfire : fireDue s.blind = fireDue s := rfl
    simp only [exec_cycIter_eq, hfire]
    cases fireDue s <;> simp [State.blind, pinLevel, List.filter_cons]
  case cycEnd =>
    have hsnap : snapDue s.blind = snapDue s := rfl
    have htracked : trackedLength s.blind = trackedLength s := rfl
    simp only [exec_cycEnd_eq, hsnap, htracked]
    simp [State.blind, List.filter_cons]
  case seqStep =>
    have hmode : s.blind.mode = s.mode := rfl
    simp only [exec, execSeqStep, hmode]
    cases s.mode <;> rfl
  case seqNext =>
    have hmode : s.blind.mode = s.mode := rfl
    simp only [exec, execSeqNext, hmode]
    cases s.mode
    case reserved => rfl
    all_goals simp only [apply_ite (onNext _)]; rfl

/-- No micro-operation takes anything blinded into what is not blinded. -/
theorem exec_blind (i : Instr) (s : State) :
    onNext State.blind (exec i s.blind) = onNext State.blind (exec i s) := by
  by_cases hi : i = .blink
  · rw [hi, onNext_blind_exec_blink, onNext_blind_exec_blink, blind_blind]
  · rw [exec_blind_of_ne_blink hi, onNext_blind_onNext_blind]

theorem onNext_blind_advanceNext (o : Host.Outcome State Fault Refusal) :
    onNext State.blind (advanceNext o) = advanceNext (onNext State.blind o) := by
  cases o <;> rfl

theorem runWord_blind (w : OpWord) (s : State) :
    onNext State.blind (runWord w s.blind) = onNext State.blind (runWord w s) := by
  unfold runWord
  split
  · exact exec_blind _ s
  · rfl

theorem runNext_blind (s : State) :
    onNext State.blind (runNext s.blind) = onNext State.blind (runNext s) := by
  have hdriver : s.blind.driver = s.driver := rfl
  have hfetch : fetchWord s.blind = fetchWord s := rfl
  unfold runNext
  rw [hdriver, hfetch]
  split
  · split
    · rw [onNext_blind_advanceNext, onNext_blind_advanceNext, runWord_blind]
    · rfl
  · rfl
  case h_3 w rest _ => exact runWord_blind w { s with driver := .harness rest }

/-- A step of the blinded state is the step itself, blinded. -/
theorem step_blind (s : State) : onNext State.blind (step s.blind) = onNext State.blind (step s) := by
  have hrst : rstLevel s.blind = rstLevel s := rfl
  have hadm : admission s.blind = admission s := rfl
  unfold step
  rw [hrst, hadm]
  split
  · rfl
  · split
    · rfl
    · exact runNext_blind (afterRst s)

end Sys2Proof.Machine
end

section
/-! PROOFS. The blinker influences nothing else (43_blink.md rule R163). -/

namespace Sys2Proof.Machine

/-- Settles O23: a step, blinded, depends on its state only as blinded. -/
theorem blinkerInfluencesNothing : Obligations.BlinkerInfluencesNothing := by
  unfold Obligations.BlinkerInfluencesNothing
  intro blind s u (hsame : s.blind = u.blind)
  have hstep : onNext State.blind (step u) = onNext State.blind (step s) := by
    rw [← step_blind, ← hsame, step_blind]
  constructor
  · intro t ht
    rw [ht] at hstep
    exact onNext_eq_next hstep
  · intro r hr
    rw [hr] at hstep
    exact onNext_eq_refused hstep

end Sys2Proof.Machine
end

section
/-! SUPPORT. BLINK by the phase that the blinker is in: LS names the phase, one of BON and BOFF is its
parameter and the other one the next phase's (43_blink.md rules R160, R161). -/

namespace Sys2Proof.Machine

variable {s t : State}

/-- The parameter of the phase that LS names: BON while it is on, BOFF while it is off. -/
def State.phaseParam (s : State) : Byte := if s.ls then s.bon else s.boff

/-- The parameter of the phase that the next switch begins. -/
def State.nextPhaseParam (s : State) : Byte := if s.ls then s.boff else s.bon

theorem phaseParam_of_on (h : s.ls = true) : s.phaseParam = s.bon := if_pos h

theorem phaseParam_of_off (h : s.ls = false) : s.phaseParam = s.boff := by
  simp [State.phaseParam, h]

theorem nextPhaseParam_of_on (h : s.ls = true) : s.nextPhaseParam = s.boff := if_pos h

theorem nextPhaseParam_of_off (h : s.ls = false) : s.nextPhaseParam = s.bon := by
  simp [State.nextPhaseParam, h]

/-- The phase that a switch leaves is the next one after the phase that it begins. -/
theorem nextPhaseParam_of_switched (hls : t.ls = !s.ls) (hbon : t.bon = s.bon)
    (hboff : t.boff = s.boff) : t.nextPhaseParam = s.phaseParam := by
  cases hs : s.ls <;> simp [State.nextPhaseParam, State.phaseParam, hls, hbon, hboff, hs]

/-- The blinker with this BLINK counted in LE, on which the two switch conditions are tested. -/
def State.counted (s : State) : State := { s with le := satInc8 s.le }

/-- This BLINK switches, in whichever direction. -/
def switchDue (s : State) : Bool := blinkOnDue s.counted || blinkOffDue s.counted

/-- Either switch waits until the counted LE exceeds the running phase's parameter, and is never made
into a phase of parameter 0. -/
theorem switchDue_iff (s : State) :
    switchDue s = true ↔ 0 < s.nextPhaseParam ∧ s.phaseParam < satInc8 s.le := by
  rw [switchDue, Bool.or_eq_true, blinkOnDue_iff, blinkOffDue_iff]
  cases hls : s.ls <;> simp [State.counted, State.phaseParam, State.nextPhaseParam, hls]

theorem blinkSwitch_counted (s : State) : blinkSwitch s.counted =
    if switchDue s then { s with ls := !s.ls, le := 0 } else s.counted := by
  unfold blinkSwitch
  by_cases hon : blinkOnDue s.counted = true
  · have hdue : switchDue s = true := by simp [switchDue, hon]
    obtain ⟨hls : s.ls = false, -⟩ := (blinkOnDue_iff _).1 hon
    rw [if_pos hon, if_pos hdue, hls]; rfl
  · by_cases hoff : blinkOffDue s.counted = true
    · have hdue : switchDue s = true := by simp [switchDue, hoff]
      obtain ⟨hls : s.ls = true, -⟩ := (blinkOffDue_iff _).1 hoff
      rw [if_neg hon, if_pos hoff, if_pos hdue, hls]; rfl
    · simp [switchDue, hon, hoff]

/-- BLINK as one update of any state: the switch, or the count alone, and then `led` and the event. -/
theorem exec_blink_eq (s : State) : exec .blink s = .next
    { s with
      ls := if switchDue s then !s.ls else s.ls
      le := if switchDue s then 0 else satInc8 s.le
      led := if switchDue s then !s.ls else s.ls
      trace := s.trace ++ [.led (if switchDue s then !s.ls else s.ls)] } := by
  have hblink : exec .blink s = .next (emit (.led (blinkSwitch s.counted).ls)
      (drivePin .led (blinkSwitch s.counted).ls (blinkSwitch s.counted))) := rfl
  rw [hblink, blinkSwitch_counted]
  cases switchDue s <;> rfl

end Sys2Proof.Machine
end

section
/-! PROOFS. BLINK itself (43_blink.md rule R160). -/

namespace Sys2Proof.Machine

/-- Settles O44: the update of BLINK; LS negated is the value that the one condition which can hold
under this LS sets. -/
theorem blinkEffect : Obligations.BlinkEffect := by
  unfold Obligations.BlinkEffect
  refine ⟨decodeWord_encode .blink, fun s => ?_⟩
  have hle : (if s.le ≠ 0xFF then s.le + 1 else s.le) = satInc8 s.le := ite_not ..
  have hon : (s.ls = false ∧ 0 < s.bon ∧ s.boff < satInc8 s.le) ↔ blinkOnDue s.counted = true :=
    (blinkOnDue_iff s.counted).symm
  have hoff : (s.ls = true ∧ 0 < s.boff ∧ s.bon < satInc8 s.le) ↔ blinkOffDue s.counted = true :=
    (blinkOffDue_iff s.counted).symm
  have hls : (if switchDue s then !s.ls else s.ls) =
      if blinkOnDue s.counted then true else if blinkOffDue s.counted then false else s.ls := by
    cases hs : s.ls <;> simp [switchDue, blinkOnDue, blinkOffDue, State.counted, hs]
  simp only [hle, hon, hoff, exec_blink_eq, hls]
  simp only [switchDue, Bool.or_eq_true]

end Sys2Proof.Machine
end

section
/-! SUPPORT. Runs of BLINK: the count within a phase and the switch that ends it, and phases that never
end (43_blink.md rule R161). -/

namespace Sys2Proof.Machine

variable {s : State}

theorem satInc8_pos (x : Byte) : 0 < satInc8 x := by
  unfold satInc8
  split <;> bv_omega

theorem satInc8_of_ne {x : Byte} (h : x ≠ 0xFF) : satInc8 x = x + 1 := if_neg h

theorem exec_blink_of_switchDue (h : switchDue s = true) : exec .blink s = .next
    { s with ls := !s.ls, le := 0, led := !s.ls, trace := s.trace ++ [.led (!s.ls)] } := by
  simp [exec_blink_eq, h]

theorem exec_blink_of_not_switchDue (h : switchDue s = false) : exec .blink s = .next
    { s with le := satInc8 s.le, led := s.ls, trace := s.trace ++ [.led s.ls] } := by
  simp [exec_blink_eq, h]

/-- As long as LE does not exceed the phase's parameter, BLINKs only count it up. -/
theorem runInstrs_blink_within_phase (k : Nat) (hk : s.le.toNat + k ≤ s.phaseParam.toNat) :
    ∃ led trace, runInstrs (List.replicate k .blink) s =
      .next { s with le := s.le + BitVec.ofNat 8 k, led, trace } := by
  induction k generalizing s with
  | zero => exact ⟨s.led, s.trace, by simp [runInstrs]⟩
  | succ k ih =>
    have hmax := s.phaseParam.isLt
    have hinc : satInc8 s.le = s.le + 1 := satInc8_of_ne (by bv_omega)
    have hstay : switchDue s = false := by
      rw [← Bool.not_eq_true, switchDue_iff, hinc]
      bv_omega
    have hblink := exec_blink_of_not_switchDue hstay
    rw [hinc] at hblink
    have hle : s.le + 1 + BitVec.ofNat 8 k = s.le + BitVec.ofNat 8 (k + 1) := by bv_omega
    obtain ⟨led, trace, hrun⟩ := ih
      (s := { s with le := s.le + 1, led := s.ls, trace := s.trace ++ [.led s.ls] })
      (show (s.le + 1).toNat + k ≤ s.phaseParam.toNat by bv_omega)
    exact ⟨led, trace, by rw [List.replicate_succ, runInstrs_cons_next hblink, hrun, hle]⟩

/-- A phase just begun lasts as many BLINKs as its parameter says, and the next one ends it. -/
theorem runInstrs_blink_phase (hnext : 0 < s.nextPhaseParam) (hmax : s.phaseParam ≤ 254)
    (hle : s.le = 0) :
    (∀ k ≤ s.phaseParam.toNat,
      ∃ t, runInstrs (List.replicate k .blink) s = .next t ∧ t.ls = s.ls) ∧
    ∃ t, runInstrs (List.replicate (s.phaseParam.toNat + 1) .blink) s = .next t ∧
      t.ls = !s.ls ∧ t.le = 0 := by
  constructor
  · intro k hk
    obtain ⟨led, trace, hrun⟩ := runInstrs_blink_within_phase (s := s) k (by simpa [hle] using hk)
    exact ⟨_, hrun, rfl⟩
  · obtain ⟨led, trace, hrun⟩ :=
      runInstrs_blink_within_phase (s := s) s.phaseParam.toNat (by simp [hle])
    have hfull : s.le + BitVec.ofNat 8 s.phaseParam.toNat = s.phaseParam := by simp [hle]
    rw [hfull] at hrun
    have hdue : switchDue { s with le := s.phaseParam, led, trace } = true := by
      refine (switchDue_iff _).2 ⟨hnext, ?_⟩
      change s.phaseParam < satInc8 s.phaseParam
      rw [satInc8_of_ne (by bv_omega)]
      bv_omega
    rw [List.replicate_succ', runInstrs_append_next hrun]
    exact ⟨_, runInstrs_cons_next (exec_blink_of_switchDue hdue), rfl, rfl⟩

/-- No value of LE ends the phase: the next one is of parameter 0, or its own is out of LE's reach. -/
def State.PhaseEndless (s : State) : Prop := s.nextPhaseParam = 0 ∨ s.phaseParam = 255

theorem switchDue_of_endless (h : s.PhaseEndless) : switchDue s = false := by
  rw [← Bool.not_eq_true, switchDue_iff]
  obtain h | h := h <;> rw [h] <;> bv_omega

/-- A phase of parameter 0 gives way at once to one of a positive parameter. -/
theorem switchDue_of_skipped (hskip : s.phaseParam = 0) (hnext : 0 < s.nextPhaseParam) :
    switchDue s = true :=
  (switchDue_iff s).2 ⟨hnext, hskip ▸ satInc8_pos s.le⟩

/-- BLINKs never stop the block, leave `led` at LS, and keep LS in an endless phase. -/
theorem runInstrs_blink_keeps (n : Nat) (hled : s.led = s.ls) :
    ∃ t, runInstrs (List.replicate n .blink) s = .next t ∧ t.led = t.ls ∧
      (s.PhaseEndless → t.ls = s.ls) := by
  induction n generalizing s with
  | zero => exact ⟨s, rfl, hled, fun _ => rfl⟩
  | succ n ih =>
    rw [List.replicate_succ]
    cases hdue : switchDue s with
    | true =>
      have hblink := exec_blink_of_switchDue hdue
      obtain ⟨t, hrun, htled, -⟩ := ih (s := { s with
        ls := !s.ls, le := 0, led := !s.ls, trace := s.trace ++ [.led (!s.ls)] }) rfl
      refine ⟨t, (runInstrs_cons_next hblink).trans hrun, htled, fun hend => ?_⟩
      simp [switchDue_of_endless hend] at hdue
    | false =>
      have hblink := exec_blink_of_not_switchDue hdue
      obtain ⟨t, hrun, htled, hstay⟩ := ih (s := { s with
        le := satInc8 s.le, led := s.ls, trace := s.trace ++ [.led s.ls] }) rfl
      exact ⟨t, (runInstrs_cons_next hblink).trans hrun, htled, hstay⟩

/-- From the first BLINK on: `led` is LS, an endless phase goes on, and a skipped one has given way to an
endless one. -/
theorem runInstrs_blink_succ (s : State) (n : Nat) :
    ∃ t, runInstrs (List.replicate (n + 1) .blink) s = .next t ∧ t.led = t.ls ∧
      (s.PhaseEndless → t.ls = s.ls) ∧
      (s.phaseParam = 0 → 0 < s.nextPhaseParam → t.ls = !s.ls) := by
  rw [List.replicate_succ]
  cases hdue : switchDue s with
  | true =>
    have hblink := exec_blink_of_switchDue hdue
    obtain ⟨t, hrun, hled, hstay⟩ := runInstrs_blink_keeps (s := { s with
      ls := !s.ls, le := 0, led := !s.ls, trace := s.trace ++ [.led (!s.ls)] }) n rfl
    refine ⟨t, (runInstrs_cons_next hblink).trans hrun, hled, fun hend => ?_, fun hskip _ => ?_⟩
    · simp [switchDue_of_endless hend] at hdue
    · exact hstay (.inl (Eq.trans (nextPhaseParam_of_switched (s := s) rfl rfl rfl) hskip))
  | false =>
    have hblink := exec_blink_of_not_switchDue hdue
    obtain ⟨t, hrun, hled, hstay⟩ := runInstrs_blink_keeps (s := { s with
      le := satInc8 s.le, led := s.ls, trace := s.trace ++ [.led s.ls] }) n rfl
    refine ⟨t, (runInstrs_cons_next hblink).trans hrun, hled, hstay, fun hskip hnext => ?_⟩
    simp [switchDue_of_skipped hskip hnext] at hdue

end Sys2Proof.Machine
end

section
/-! PROOFS. The lengths of the blinker's phases, and the phases that never end (43_blink.md rules R161,
R162). -/

namespace Sys2Proof.Machine

/-- Settles O45: the on phase and the off phase are each the phase that LS names. -/
theorem blinkPhaseLengths : Obligations.BlinkPhaseLengths := by
  unfold Obligations.BlinkPhaseLengths
  intro s hbon hboff hbon' hboff' hle
  have hphase := runInstrs_blink_phase (s := s)
  constructor <;> intro hls
  · rw [phaseParam_of_on hls, nextPhaseParam_of_on hls, hls] at hphase
    exact hphase (by bv_omega) hbon' hle
  · rw [phaseParam_of_off hls, nextPhaseParam_of_off hls, hls] at hphase
    exact hphase (by bv_omega) hboff' hle

/-- Settles O46: under each clause, and by the phase that LS names, the phase is endless or is skipped
at the first BLINK. -/
theorem blinkPermanentPhases : Obligations.BlinkPermanentPhases := by
  unfold Obligations.BlinkPermanentPhases
  intro s n
  obtain ⟨t, hrun, hled, hstay, hskip⟩ := runInstrs_blink_succ s n
  refine ⟨t, hrun, hled, ?_⟩
  rw [State.PhaseEndless] at hstay
  cases hls : s.ls
  case false =>
    rw [phaseParam_of_off hls, nextPhaseParam_of_off hls, hls] at hstay hskip
    exact ⟨fun hbon hboff => hskip hboff hbon, fun hbon _ => hstay (.inl hbon),
      fun hbon _ => hstay (.inl hbon), nofun, fun _ hboff => hstay (.inr hboff)⟩
  case true =>
    rw [phaseParam_of_on hls, nextPhaseParam_of_on hls, hls] at hstay hskip
    exact ⟨fun _ hboff => hstay (.inl hboff), hskip, fun _ hboff => hstay (.inl hboff),
      fun _ hbon => hstay (.inr hbon), nofun⟩

end Sys2Proof.Machine
end

section
/-! SUPPORT. The level steps on exact numbers, and SEQ.STEP's equation in each mode (44_sequencer.md rules
R171 to R174). -/

namespace Sys2Proof.Machine

variable {s : State}

theorem scaledLevel_zero : scaledLevel 0 = 0 := by decide

theorem levelDown_toNat (l step : Word32) : (levelDown l step).toNat = l.toNat - step.toNat := by
  unfold levelDown
  split <;> bv_omega

/-- Any number of rising steps is one exact rise, clamped once. -/
theorem levelUp_iterate_toNat {l step levelMax : Word32} (hl : l ≤ levelMax) (n : Nat) :
    ((levelUp · step levelMax)^[n] l).toNat = min (l.toNat + n * step.toNat) levelMax.toNat := by
  induction n with
  | zero => simpa using BitVec.le_def.1 hl
  | succ n ih =>
    rw [Function.iterate_succ_apply', levelUp_toNat, ih, Nat.succ_mul]
    omega

/-- Any number of falling steps is one exact fall, clamped once. -/
theorem levelDown_iterate_toNat (l step : Word32) (n : Nat) :
    ((levelDown · step)^[n] l).toNat = l.toNat - n * step.toNat := by
  induction n with
  | zero => simp
  | succ n ih =>
    rw [Function.iterate_succ_apply', levelDown_toNat, ih, Nat.succ_mul]
    omega

/-! ### SEQ.STEP -/

theorem exec_seqStep_rampUp (h : s.mode = .rampUp) : exec .seqStep s =
    .next (loadStep s.cfg.blink.rampUp
      { s with level := levelUp s.level s.cfg.stepUp s.cfg.levelMax }) := by
  simp [exec, execSeqStep, h]

theorem exec_seqStep_steady (h : s.mode = .steady) : exec .seqStep s =
    .next (loadStep s.cfg.blink.steady
      { s with level := s.cfg.levelMax, mtimer := satInc32 s.mtimer }) := by
  simp [exec, execSeqStep, h]

theorem exec_seqStep_rampDown (h : s.mode = .rampDown) : exec .seqStep s =
    .next (loadStep s.cfg.blink.rampDown
      { s with level := levelDown s.level s.cfg.stepDown, mtimer := satInc32 s.mtimer }) := by
  simp [exec, execSeqStep, h]

theorem exec_seqStep_offRamp (h : s.mode = .offRamp) : exec .seqStep s =
    .next (loadStep s.cfg.blink.offRamp { s with level := levelDown s.level s.cfg.stepOff }) := by
  simp [exec, execSeqStep, h]

theorem exec_seqStep_off (h : s.mode = .off) : exec .seqStep s =
    .next (loadStep s.cfg.blink.off { s with level := 0 }) := by
  simp [exec, execSeqStep, h]

theorem exec_seqStep_onRamp (h : s.mode = .onRamp) : exec .seqStep s =
    .next (loadStep s.cfg.blink.onRamp
      { s with level := levelUp s.level s.cfg.stepOn s.cfg.levelMax }) := by
  simp [exec, execSeqStep, h]

theorem exec_seqStep_on (h : s.mode = .on) : exec .seqStep s =
    .next (loadStep s.cfg.blink.on { s with level := s.cfg.levelMax }) := by
  simp [exec, execSeqStep, h]

theorem exec_seqStep_reserved (h : s.mode = .reserved) : exec .seqStep s = .refused .reservedMode := by
  simp [exec, execSeqStep, h]

end Sys2Proof.Machine
end

section
/-! PROOFS. The sequencer's and the host's micro-operations themselves, and their level arithmetic
(44_sequencer.md rules R171 to R173, R176, R180 to R183, R186). -/

namespace Sys2Proof.Machine

/-- Settles O47: each step on exact numbers. -/
theorem levelStepsClamp : Obligations.LevelStepsClamp := by
  unfold Obligations.LevelStepsClamp
  intro l step levelMax
  refine ⟨levelUp_toNat l step levelMax, ?_, fun hl hstep => ?_⟩
  · rw [levelDown_toNat]
    split <;> omega
  · bv_omega

/-- Settles O51: the two shifts are a division by 65536 and a doubling, and the half of the range that
the premise allows loses no bit. -/
theorem scaledLevelReach : Obligations.ScaledLevelReach := by
  unfold Obligations.ScaledLevelReach
  refine ⟨fun level hlevel => ?_, by decide⟩
  have hscaled : (scaledLevel level).toNat = 2 * (level.toNat / 65536) := by
    simp only [scaledLevel, BitVec.toNat_setWidth, BitVec.toNat_shiftLeft, BitVec.toNat_ushiftRight,
      Nat.shiftLeft_eq, Nat.shiftRight_eq_div_pow]
    bv_omega
  exact ⟨hscaled, by bv_omega, by bv_omega⟩

/-- Settles O48: the rows of the rule's table are SEQ.STEP's equations, mode by mode. -/
theorem seqStepEffect : Obligations.SeqStepEffect := by
  unfold Obligations.SeqStepEffect
  refine ⟨decodeWord_encode .seqStep, fun s => exec_seqStep_reserved, fun s level mtimer p => ?_⟩
  intro c counted hrow
  have hcounted : satInc32 s.mtimer = counted := ite_congr rfl id (fun _ => rfl)
  simp only [List.mem_cons, List.not_mem_nil, or_false, Prod.mk.injEq, ← hcounted] at hrow
  obtain ⟨h, rfl, rfl, rfl⟩ | ⟨h, rfl, rfl, rfl⟩ | ⟨h, rfl, rfl, rfl⟩ | ⟨h, rfl, rfl, rfl⟩ |
    ⟨h, rfl, rfl, rfl⟩ | ⟨h, rfl, rfl, rfl⟩ | ⟨h, rfl, rfl, rfl⟩ := hrow
  · exact exec_seqStep_rampUp h
  · exact exec_seqStep_steady h
  · exact exec_seqStep_rampDown h
  · exact exec_seqStep_offRamp h
  · exact exec_seqStep_off h
  · exact exec_seqStep_onRamp h
  · exact exec_seqStep_on h

/-- Settles O49: in each mode the table's tests of MODE are decided, and what is left of it is that
mode's own tests in the model's order. -/
theorem seqNextEffect : Obligations.SeqNextEffect := by
  unfold Obligations.SeqNextEffect
  refine ⟨decodeWord_encode .seqNext, fun s h => ?_, fun s hdefined => ?_⟩
  · simp [exec, execSeqNext, h]
  · cases hmode : s.mode
    case reserved => exact absurd hmode hdefined
    all_goals simp [exec, execSeqNext, hmode, apply_ite Host.Outcome.next]

/-- Settles O50: the model's ports are read once and loaded as they are. -/
theorem hostLoadEffect : Obligations.HostLoadEffect := by
  unfold Obligations.HostLoadEffect
  exact ⟨decodeWord_encode .hostLoad, fun _ => rfl⟩

end Sys2Proof.Machine
end

section
/-! SUPPORT. Runs of the sequencer: a block of micro-operations repeated, and what an invariant of one
block gives after any number of them. -/

namespace Sys2Proof.Machine

variable {s t : State}

/-- The block `is`, `n` times over. -/
def blocks (n : Nat) (is : List Instr) : List Instr := (List.replicate n is).flatten

/-- One pass of the sequencer through a semicycle (44_sequencer.md rules R171, R180). -/
def sequencerPass : List Instr := [.seqStep, .seqNext]

theorem runInstrs_pass_next {u : State} (hstep : exec .seqStep s = .next u)
    (hnext : exec .seqNext u = .next t) : runInstrs sequencerPass s = .next t := by
  simp [sequencerPass, runInstrs, hstep, hnext]

/-- What holds at first and is carried on by each block of a run holds at its end, and the run
completes. -/
theorem runInstrs_blocks {is : List Instr} {n : Nat} (P : Nat → State → Prop) (hs : P 0 s)
    (hblock : ∀ k < n, ∀ u, P k u → ∃ v, runInstrs is u = .next v ∧ P (k + 1) v) :
    ∃ t, runInstrs (blocks n is) s = .next t ∧ P n t := by
  induction n with
  | zero => exact ⟨s, rfl, hs⟩
  | succ n ih =>
    obtain ⟨u, hu, hPu⟩ := ih fun k hk => hblock k (Nat.lt_succ_of_lt hk)
    obtain ⟨v, hv, hPv⟩ := hblock n n.lt_succ_self u hPu
    refine ⟨v, ?_, hPv⟩
    rw [blocks, List.replicate_succ', List.flatten_concat]
    exact (runInstrs_append_next hu).trans hv

/-! ### The ramps -/

/-- `k` SEQ.STEPs of one mode after `s`, each of which changes LEVEL by `f` under the straps. -/
structure SteppedBy (f : Config → Word32 → Word32) (s : State) (k : Nat) (t : State) : Prop where
  cfg : t.cfg = s.cfg
  mode : t.mode = s.mode
  level : t.level = (f s.cfg)^[k] s.level

/-- In a mode whose SEQ.STEP changes LEVEL by `f`, any number of them iterates `f`. -/
theorem runInstrs_seqStep_iterate {f : Config → Word32 → Word32} (n : Nat)
    (hstep : ∀ u, u.mode = s.mode →
      ∃ p mtimer, exec .seqStep u = .next (loadStep p { u with level := f u.cfg u.level, mtimer })) :
    ∃ t, runInstrs (List.replicate n .seqStep) s = .next t ∧ t.level = (f s.cfg)^[n] s.level := by
  have hblock : ∀ k < n, ∀ u, SteppedBy f s k u →
      ∃ v, runInstrs [.seqStep] u = .next v ∧ SteppedBy f s (k + 1) v := by
    rintro k - u ⟨hcfg, hmode, hlevel⟩
    obtain ⟨p, mtimer, hu⟩ := hstep u hmode
    refine ⟨_, runInstrs_cons_next hu, hcfg, hmode, ?_⟩
    rw [Function.iterate_succ_apply', ← hlevel, ← hcfg]
    rfl
  obtain ⟨t, hrun, ⟨-, -, hlevel⟩⟩ := runInstrs_blocks _ ⟨rfl, rfl, rfl⟩ hblock
  rw [blocks, List.flatten_replicate_singleton] at hrun
  exact ⟨t, hrun, hlevel⟩

theorem runInstrs_seqStep_rising (step : Config → Word32) (n : Nat) (hs : s.level ≤ s.cfg.levelMax)
    (hstep : ∀ u, u.mode = s.mode → ∃ p mtimer, exec .seqStep u =
      .next (loadStep p { u with level := levelUp u.level (step u.cfg) u.cfg.levelMax, mtimer })) :
    ∃ t, runInstrs (List.replicate n .seqStep) s = .next t ∧
      t.level.toNat = min (s.level.toNat + n * (step s.cfg).toNat) s.cfg.levelMax.toNat := by
  obtain ⟨t, hrun, hlevel⟩ :=
    runInstrs_seqStep_iterate (f := fun c => (levelUp · (step c) c.levelMax)) n hstep
  exact ⟨t, hrun, hlevel ▸ levelUp_iterate_toNat hs n⟩

theorem runInstrs_seqStep_falling (step : Config → Word32) (n : Nat)
    (hstep : ∀ u, u.mode = s.mode → ∃ p mtimer, exec .seqStep u =
      .next (loadStep p { u with level := levelDown u.level (step u.cfg), mtimer })) :
    ∃ t, runInstrs (List.replicate n .seqStep) s = .next t ∧
      t.level.toNat = s.level.toNat - n * (step s.cfg).toNat := by
  obtain ⟨t, hrun, hlevel⟩ :=
    runInstrs_seqStep_iterate (f := fun c => (levelDown · (step c))) n hstep
  exact ⟨t, hrun, hlevel ▸ levelDown_iterate_toNat _ _ n⟩

/-! ### Off-ramp and Off -/

/-- Where LEVEL cannot rise without a press: Off-ramp and Off. -/
def State.Falling (s : State) : Prop := s.mode = .offRamp ∨ s.mode = .off

theorem exec_seqStep_of_falling (h : s.Falling) :
    ∃ p level, exec .seqStep s = .next (loadStep p { s with level }) ∧ level ≤ s.level := by
  obtain h | h := h
  · exact ⟨_, _, exec_seqStep_offRamp h, levelDown_le _ _⟩
  · exact ⟨_, _, exec_seqStep_off h, BitVec.le_def.2 (Nat.zero_le _)⟩

/-- Without a press SEQ.NEXT changes nothing in these modes but to end the Off-ramp. -/
theorem exec_seqNext_of_falling (h : s.Falling) (hpress : s.press = false) :
    exec .seqNext s = .next s ∨ exec .seqNext s = .next { s with mode := .off } := by
  obtain ⟨-, -, hnext⟩ := seqNextEffect
  obtain h | h := h
  · by_cases hlevel : s.level = 0#32
    · exact .inr (by simp [hnext, h, hpress, hlevel])
    · exact .inl (by simp [hnext, h, hpress, hlevel])
  · exact .inl (by simp [hnext, h, hpress])

/-- Without a press, at or below `level` in Off-ramp or Off. -/
structure State.FallenTo (level : Word32) (s : State) : Prop where
  unpressed : s.press = false
  below : s.level ≤ level
  falling : s.Falling

theorem runInstrs_pass_of_fallen {level : Word32} (hs : s.FallenTo level) :
    ∃ t, runInstrs sequencerPass s = .next t ∧ t.FallenTo level := by
  obtain ⟨hpress, hbelow, hfall⟩ := hs
  obtain ⟨p, l, hstep, hl⟩ := exec_seqStep_of_falling hfall
  have hbelow' := BitVec.le_trans hl hbelow
  obtain hnext | hnext := exec_seqNext_of_falling (s := loadStep p { s with level := l }) hfall hpress
  · exact ⟨_, runInstrs_pass_next hstep hnext, hpress, hbelow', hfall⟩
  · exact ⟨_, runInstrs_pass_next hstep hnext, hpress, hbelow', .inr rfl⟩

theorem runInstrs_passes_of_fallen {level : Word32} (n : Nat) (hs : s.FallenTo level) :
    ∃ t, runInstrs (blocks n sequencerPass) s = .next t ∧ t.FallenTo level :=
  runInstrs_blocks (fun _ => State.FallenTo level) hs fun _ _ _ => runInstrs_pass_of_fallen

/-! ### The timed modes -/

/-- `k` passes into a timed mode entered in `s`: MTIMER has counted them. -/
structure TimedFor (s : State) (k : Nat) (t : State) : Prop where
  cfg : t.cfg = s.cfg
  mode : t.mode = s.mode
  press : t.press = s.press
  mtimer : t.mtimer.toNat = k

/-- In Steady and RampDown SEQ.STEP counts MTIMER up, short of its maximum. -/
theorem exec_seqStep_of_timed {k : Nat} (hmode : s.mode = .steady ∨ s.mode = .rampDown)
    (ht : TimedFor s k t) (hk : k < 0xFFFFFFFF) :
    ∃ u, exec .seqStep t = .next u ∧ TimedFor s (k + 1) u := by
  obtain ⟨hcfg, htmode, hpress, htimer⟩ := ht
  have hinc : (satInc32 t.mtimer).toNat = k + 1 := by
    rw [satInc32, if_neg (by bv_omega)]
    bv_omega
  rw [← htmode] at hmode
  obtain h | h := hmode
  · exact ⟨_, exec_seqStep_steady h, hcfg, htmode, hpress, hinc⟩
  · exact ⟨_, exec_seqStep_rampDown h, hcfg, htmode, hpress, hinc⟩

/-- `k` passes into a timed mode of `d` semicycles that is left by `leave`: still in it, or just out. -/
def TimedOrLeft (d : Word32) (leave : State → State) (s : State) (k : Nat) (t : State) : Prop :=
  ∃ u, TimedFor s k u ∧ t = if k = d.toNat then leave u else u

/-- A timed mode of `d` semicycles, which SEQ.NEXT leaves by `leave` once MTIMER is at `d`, goes on for
the first passes and is left at the `d`-th. -/
theorem runInstrs_passes_of_timed {d : Word32} {n : Nat} {leave : State → State}
    (hmode : s.mode = .steady ∨ s.mode = .rampDown) (hmtimer : s.mtimer = 0)
    (hd : 1 ≤ d) (hn : n ≤ d.toNat)
    (hnext : ∀ u, u.cfg = s.cfg → u.mode = s.mode → u.press = s.press →
      exec .seqNext u = .next (if d ≤ u.mtimer then leave u else u)) :
    ∃ t, TimedFor s n t ∧ runInstrs (blocks n sequencerPass) s =
      .next (if n = d.toNat then leave t else t) := by
  have hstart : TimedOrLeft d leave s 0 s :=
    ⟨s, ⟨rfl, rfl, rfl, by simp [hmtimer]⟩, by rw [if_neg (by bv_omega)]⟩
  have hpass : ∀ k < n, ∀ u, TimedOrLeft d leave s k u →
      ∃ v, runInstrs sequencerPass u = .next v ∧ TimedOrLeft d leave s (k + 1) v := by
    rintro k hk _ ⟨u, hu, rfl⟩
    obtain ⟨v, hstep, hv⟩ := exec_seqStep_of_timed hmode hu (by omega)
    have hdue : d ≤ v.mtimer ↔ k + 1 = d.toNat := by
      rw [BitVec.le_def, hv.mtimer]
      omega
    rw [if_neg (by omega)]
    exact ⟨_, runInstrs_pass_next hstep (hnext v hv.cfg hv.mode hv.press), v, hv, by simp only [hdue]⟩
  obtain ⟨_, hrun, t, ht, rfl⟩ := runInstrs_blocks _ hstart hpass
  exact ⟨t, ht, hrun⟩

/-! ### What only SEQ.STEP and HOST.LOAD write -/

/-- A run without SEQ.STEP and HOST.LOAD leaves LEVEL and SL alone. -/
theorem runInstrs_keeps_level_and_sl {is : List Instr}
    (his : ∀ i ∈ is, i ≠ .seqStep ∧ i ≠ .hostLoad) (h : runInstrs is s = .next t) :
    t.level = s.level ∧ t.sl = s.sl := by
  induction is generalizing s with
  | nil => cases h; exact ⟨rfl, rfl⟩
  | cons i is ih =>
    obtain ⟨⟨hstep, hload⟩, his⟩ := List.forall_mem_cons.1 his
    obtain ⟨u, hu, ht⟩ := runInstrs_cons_cases h
    obtain ⟨-, -, -, -, hsl, -, -, -, -, hlevel, -⟩ := onlyListedWriters i s u hu
    obtain ⟨husl, -⟩ := hsl hstep hload
    obtain ⟨htlevel, htsl⟩ := ih his ht
    exact ⟨htlevel.trans (hlevel hstep), htsl.trans husl⟩

end Sys2Proof.Machine
end

section
/-! PROOFS. Runs of the sequencer: linear ramps, no overshoot, timed modes, and Off without a pulse
(44_sequencer.md rules R174, R175, R187). -/

namespace Sys2Proof.Machine

/-- Settles O52: each ramp's SEQ.STEP iterates one level step, and the steps add up. -/
theorem rampsAreLinear : Obligations.RampsAreLinear := by
  unfold Obligations.RampsAreLinear
  intro s n hs
  refine ⟨fun hmode => ?_, fun hmode => ?_, fun hmode => ?_, fun hmode => ?_⟩
  · exact runInstrs_seqStep_rising Config.stepUp n hs
      fun u hu => ⟨_, _, exec_seqStep_rampUp (hu.trans hmode)⟩
  · exact runInstrs_seqStep_rising Config.stepOn n hs
      fun u hu => ⟨_, _, exec_seqStep_onRamp (hu.trans hmode)⟩
  · exact runInstrs_seqStep_falling Config.stepOff n
      fun u hu => ⟨_, _, exec_seqStep_offRamp (hu.trans hmode)⟩
  · exact runInstrs_seqStep_falling Config.stepDown n
      fun u hu => ⟨_, _, exec_seqStep_rampDown (hu.trans hmode)⟩

/-- Settles O53: the press puts the block in Off-ramp at its level, and from there it only falls. -/
theorem noOvershootAfterPress : Obligations.NoOvershootAfterPress := by
  unfold Obligations.NoOvershootAfterPress
  intro s n
  have hfalls {u : State} (hu : u.FallenTo s.level) :
      ∃ t, runInstrs (blocks n sequencerPass) u = .next t ∧ t.level ≤ s.level ∧ t.Falling := by
    obtain ⟨t, hrun, ⟨-, hbelow, hfall⟩⟩ := runInstrs_passes_of_fallen n hu
    exact ⟨t, hrun, hbelow, hfall⟩
  constructor
  · intro hmode hpress
    obtain ⟨-, -, hnext⟩ := seqNextEffect
    obtain ⟨t, ht⟩ := hfalls (u := { s with mode := .offRamp, press := false })
      ⟨rfl, BitVec.le_refl _, .inl rfl⟩
    exact ⟨{ s with mode := .offRamp }, t, by simp [hnext, hmode, hpress], rfl, rfl, ht⟩
  · intro hmode hpress
    exact hfalls ⟨hpress, BitVec.le_refl _, hmode⟩

/-- Settles O54: in each of the two modes SEQ.NEXT tests MTIMER, and nothing else that can hold. -/
theorem timedModesLast : Obligations.TimedModesLast := by
  unfold Obligations.TimedModesLast
  intro s n hmtimer
  obtain ⟨-, -, hnext⟩ := seqNextEffect
  constructor
  · intro hmode hpress hd hn
    obtain ⟨t, ht, hrun⟩ := runInstrs_passes_of_timed
      (leave := fun u => { u with mode := .rampDown, mtimer := 0 }) (.inl hmode) hmtimer hd hn
      fun u hcfg humode hupress => by simp [hnext, humode, hmode, hupress, hpress, hcfg]
    refine ⟨_, hrun, ?_⟩
    split
    · exact ⟨rfl, rfl⟩
    · exact ⟨ht.mode.trans hmode, ht.mtimer⟩
  · intro hmode hd hn
    obtain ⟨t, ht, hrun⟩ := runInstrs_passes_of_timed
      (leave := fun u => { u with mode := .offRamp }) (.inr hmode) hmtimer hd hn
      fun u hcfg humode _ => by simp [hnext, humode, hmode, hcfg]
    refine ⟨_, hrun, ?_⟩
    split
    · rfl
    · exact ht.mode.trans hmode

/-- Settles O56: in Off SEQ.STEP makes SL 0, from where CURVE, CYC.BEGIN and the loop give no pulse, and
none of these writes LEVEL or SL. -/
theorem offNeverFires : Obligations.OffNeverFires := by
  unfold Obligations.OffNeverFires
  intro s k hmode
  have hstep := exec_seqStep_off hmode
  obtain ⟨t, hrun, hcount, hfired, -⟩ :=
    levelZeroNeverFires (loadStep s.cfg.blink.off { s with level := 0 }) k scaledLevel_zero
  obtain ⟨hlevel, hsl⟩ := runInstrs_keeps_level_and_sl (by simp) hrun
  exact ⟨t, (runInstrs_cons_next hstep).trans hrun, hlevel, hsl.trans scaledLevel_zero, hfired, hcount⟩

end Sys2Proof.Machine
end

section
/-! SUPPORT. The block without its mode sequencer: MODE, LEVEL and MTIMER are read by SEQ.STEP and
SEQ.NEXT alone (44_sequencer.md rule R186). -/

namespace Sys2Proof.Machine

variable {s : State} {i : Instr}

/-- The block with other values in the mode sequencer's three registers. -/
def State.withSequencer (m : Mode) (l x : Word32) (s : State) : State :=
  { s with mode := m, level := l, mtimer := x }

/-- Every other micro-operation does the same whatever the three registers hold, and leaves them. -/
theorem exec_withSequencer (hstep : i ≠ .seqStep) (hnext : i ≠ .seqNext) (m : Mode) (l x : Word32) :
    exec i (s.withSequencer m l x) = onNext (State.withSequencer m l x) (exec i s) := by
  cases i
  case seqStep => exact absurd rfl hstep
  case seqNext => exact absurd rfl hnext
  case curve | btnPoll | hostLoad => rfl
  case cycBegin =>
    have hcomp : ((s.withSequencer m l x).ph = (s.withSequencer m l x).cfg.compPhase) =
        (s.ph = s.cfg.compPhase) := rfl
    simp only [exec, execCycBegin, hcomp]
    split <;> rfl
  case cycIter =>
    have hfire : fireDue (s.withSequencer m l x) = fireDue s := rfl
    simp only [exec_cycIter_eq, hfire]
    rfl
  case cycEnd =>
    have hsnap : snapDue (s.withSequencer m l x) = snapDue s := rfl
    simp only [exec_cycEnd_eq, hsnap]
    rfl
  case blink =>
    have hswitch : switchDue (s.withSequencer m l x) = switchDue s := rfl
    simp only [exec_blink_eq, hswitch]
    rfl

/-- ENGINE_ONLY's schedule holds neither SEQ.STEP nor SEQ.NEXT (30_encoding.md rule R86). -/
theorem engineOnly_instr {u : StepIndex} {w : OpWord} (hw : scheduleWord .engineOnly u = some w)
    (hi : decodeWord w = .ok i) : i ≠ .seqStep ∧ i ≠ .seqNext := by
  have hwords : ∀ u, scheduleWord .engineOnly u ≠ some (encode .seqStep) ∧
      scheduleWord .engineOnly u ≠ some (encode .seqNext) := by decide
  obtain ⟨hstep, hnext⟩ := hwords u
  rw [hw, eq_encode_of_decodeWord hi] at hstep hnext
  exact ⟨fun h => hstep (h ▸ rfl), fun h => hnext (h ▸ rfl)⟩

end Sys2Proof.Machine
end

section
/-! PROOFS. ENGINE_ONLY runs without the mode sequencer (44_sequencer.md rule R186; 42_button.md rule
R154). -/

namespace Sys2Proof.Machine

/-- Settles O55: the step runs one micro-operation of ENGINE_ONLY's schedule, which neither writes nor
reads the three registers. -/
theorem engineOnlyWithoutSequencer : Obligations.EngineOnlyWithoutSequencer := by
  unfold Obligations.EngineOnlyWithoutSequencer
  intro s t m l x hengine hd hrst h
  obtain ⟨hr, -⟩ | ⟨-, hadm, ⟨w, i, u, -, hw, hi, hu, rfl⟩ | ⟨w, rest, i, hd', -, -⟩⟩ := step_cases h
  · simp [hrst] at hr
  · have hengineWord : scheduleWord .engineOnly s.upc = some w := hengine ▸ hw
    obtain ⟨hstep, hnext⟩ := engineOnly_instr hengineWord hi
    obtain ⟨-, -, -, -, -, -, -, -, hmode, hlevel, hmtimer, -, -, hcfg, -⟩ :=
      onlyListedWriters i _ u hu
    have hpress : pressOut (advanceUpc u) = some (advanceUpc u).press := by
      simp [pressOut, hcfg, hengine]
    refine ⟨hmode hnext, hlevel hstep, hmtimer hstep hnext, hpress, ?_⟩
    have hread := exec_withSequencer (s := afterRst s) hstep hnext m l x
    rw [hu] at hread
    have hother : step (s.withSequencer m l x) =
        advanceNext (exec i ((afterRst s).withSequencer m l x)) :=
      step_of_scheduled hrst hadm hd hw hi
    exact hother.trans (congrArg advanceNext hread)
  · simp [hd] at hd'

end Sys2Proof.Machine
end

section
/-! SUPPORT. The timing loop over any number of steps, counted from the state it is at: what the
iterations write, and that they write nothing else (41_cycle.md rules R124 to R126; 60_exceptions.md
rule R205). -/

namespace Sys2Proof.Machine

variable {s t u : State} {n : Nat}

/-- `s` with everything that the loop writes taken from `t`. -/
def State.withLoopOf (s t : State) : State :=
  { s with
    cnt := t.cnt, fired := t.fired, zdone := t.zdone, zh := t.zh, triacN := t.triacN, upc := t.upc,
    trace := t.trace, rstIn := t.rstIn, zcIn := t.zcIn, zcTaken := t.zcTaken }

/-- `t` is `s` after `n` iterations, by what they write: FIRED as it was and CNT up by `n`, or one
pulse issued and FIRE_COMP added too. -/
structure IteratedSince (s : State) (n : Nat) (t : State) : Prop where
  pulse : (t.fired = s.fired ∧ t.cnt = s.cnt + BitVec.ofNat 16 n ∧
      fireCount t.trace = fireCount s.trace) ∨
    (s.fired = false ∧ t.fired = true ∧ t.cnt = s.cnt + BitVec.ofNat 16 n + s.cfg.fireComp ∧
      fireCount t.trace = fireCount s.trace + 1)
  gate : t.triacN = true ∨ t.triacN = s.triacN
  frame : t = s.withLoopOf t

theorem IteratedSince.keeps (h : IteratedSince s n t) : t.cfg = s.cfg ∧ t.sc = s.sc ∧ t.cl = s.cl ∧
    t.ph = s.ph ∧ t.ls = s.ls ∧ t.le = s.le ∧ t.led = s.led ∧ t.bh = s.bh ∧ t.mode = s.mode := by
  rw [h.frame]
  exact ⟨rfl, rfl, rfl, rfl, rfl, rfl, rfl, rfl, rfl⟩

/-- Whether FIRED changed tells whether there was the pulse. -/
theorem IteratedSince.atMostOnePulse (h : IteratedSince s n t) :
    fireCount t.trace ≤ fireCount s.trace + 1 ∧
      t.cnt = s.cnt + BitVec.ofNat 16 n + (if t.fired = s.fired then 0 else s.cfg.fireComp) := by
  obtain ⟨hfired, hcnt, hcount⟩ | ⟨hno, hfired, hcnt, hcount⟩ := h.pulse
  · simp [hfired, hcnt, hcount]
  · simp [hno, hfired, hcnt, hcount]

theorem iteratedSince_zero (s : State) : IteratedSince s 0 s :=
  ⟨.inl ⟨rfl, by simp, rfl⟩, .inr rfl, rfl⟩

/-- A step in the loop is one iteration. -/
theorem iteratedSince_of_step (hs : s.Running) (h3 : s.upc = 3) (h : runSteps 1 s = .next t) :
    IteratedSince s 1 t := by
  obtain ⟨u, hu, hstep⟩ := step_is_cycIter hs h3
  rw [runSteps_succ_next hstep] at h
  cases h
  rw [exec_cycIter_eq] at hu
  cases hdue : fireDue (afterRst s) with
  | false =>
    cases hu
    exact ⟨.inl (by simp [hdue]), .inr (by simp [hdue]), rfl⟩
  | true =>
    obtain ⟨hfired, -⟩ := (fireDue_iff _).1 hdue
    cases hu
    refine ⟨.inr ⟨hfired, by simp [hdue], ?_, by simp [hdue, fireCount]⟩, .inl (by simp [hdue]), rfl⟩
    simp only [hdue, if_true, advanceUpc_cnt, afterRst_cnt, afterRst_cfg]
    bv_omega

/-- Iterations add up: after a pulse FIRED is 1, so there is no second one. -/
theorem IteratedSince.trans {m : Nat} (hm : IteratedSince s m t) (hn : IteratedSince t n u) :
    IteratedSince s (m + n) u := by
  obtain ⟨hcfg, -⟩ := hm.keeps
  obtain ⟨hpulse, hgate, hframe⟩ := hm
  obtain ⟨hpulse', hgate', hframe'⟩ := hn
  refine ⟨?_, hgate'.elim .inl fun h => hgate.imp h.trans h.trans,
    hframe'.trans (congrArg (·.withLoopOf u) hframe)⟩
  rw [hcfg] at hpulse'
  obtain ⟨hfired, hcnt, hcount⟩ | ⟨hno, hfired, hcnt, hcount⟩ := hpulse <;>
  obtain ⟨hfired', hcnt', hcount'⟩ | ⟨hno', hfired', hcnt', hcount'⟩ := hpulse'
  · exact .inl ⟨hfired'.trans hfired, by rw [hcnt', hcnt]; bv_omega, hcount'.trans hcount⟩
  · exact .inr ⟨hfired.symm.trans hno', hfired', by rw [hcnt', hcnt]; bv_omega, by rw [hcount', hcount]⟩
  · exact .inr ⟨hno, hfired'.trans hfired, by rw [hcnt', hcnt]; bv_omega, hcount'.trans hcount⟩
  · simp [hno'] at hfired

/-- As long as the history is not EXP(PH) every step is one more iteration. -/
theorem inLoop_iterated (hs : s.Running) (h3 : s.upc = 3) (hz : s.zdone = false)
    (hopen : ∀ m ≤ n, zhAfter s m ≠ expPattern s.ph) : ∃ t, InLoop s n t ∧ IteratedSince s n t := by
  induction n with
  | zero => exact ⟨s, inLoop_zero hs h3 hz, iteratedSince_zero s⟩
  | succ n ih =>
    obtain ⟨t, ht, hsince⟩ := ih fun m hm => hopen m (Nat.le_succ_of_le hm)
    obtain ⟨u, hu⟩ := ht.next
    rw [if_neg (hopen (n + 1) (Nat.le_refl _))] at hu
    have hone : runSteps 1 t = .next u := (runSteps_add_next ht.run).symm.trans hu.run
    exact ⟨u, hu, hsince.trans (iteratedSince_of_step ht.running ht.atIter hone)⟩

end Sys2Proof.Machine
end

section
/-! PROOFS. A zero-cross that never comes (60_exceptions.md rule R205). -/

namespace Sys2Proof.Machine

/-- Settles O36: EXP(PH) takes eight samples from the last semicycle's pattern, and they are not
supplied, so every step is an iteration that stays in the loop. -/
theorem missingZeroCrossHangs : Obligations.MissingZeroCrossHangs := by
  unfold Obligations.MissingZeroCrossHangs
  intro s n hs h3 hz hzh hmissing
  have hopen : ∀ m ≤ n, zhAfter s m ≠ expPattern s.ph := by
    intro m hm hexit
    obtain ⟨k, rfl⟩ := Nat.exists_eq_add_of_le' (eight_le_of_zhAfter hzh hexit)
    exact hmissing k hm ((zhAfter_eq_expPattern_iff k).1 hexit)
  obtain ⟨t, ht, hsince⟩ := inLoop_iterated hs h3 hz hopen
  obtain ⟨hpulses, hcnt⟩ := hsince.atMostOnePulse
  obtain ⟨-, hsc, hcl, hph, hls, hle, hled, hbh, hmode⟩ := hsince.keeps
  exact ⟨t, ht.run, ht.atIter, ht.notDone, hpulses, hcnt, hsc, hcl, hph, hls, hle, hled, hbh, hmode,
    fun hhigh => hsince.gate.elim id (·.trans hhigh)⟩

end Sys2Proof.Machine
end

section
/-! SUPPORT. Where nothing runs: a refused word of a trace program, a refusal already marked, straps out
of range, a held reset (60_exceptions.md rules R202 to R204, R206; 70_reset_and_hazards.md rule R230). -/

namespace Sys2Proof.Machine

variable {s : State} {r : Refusal} {w : OpWord}

theorem step_of_rst (hrst : rstLevel s = true) : step s = .next (holdReset s) := by
  simp [step, hrst]

theorem step_of_not_admitted (hrst : rstLevel s = false) (hadm : admission s = some r) :
    step s = .refused r := by
  simp [step, hrst, hadm]

theorem admission_of_marked (h : s.refusalMark = some r) : admission s = some r := by
  simp [admission, h]

theorem admission_of_out_of_range (hmark : s.refusalMark = none) (hcfg : configInRange s.cfg = false) :
    admission s = some .configOutOfRange := by
  simp [admission, hmark, hcfg]

theorem markRefused_of_marked (h : s.refusalMark = some r) : markRefused r s = s := by
  rw [markRefused, ← h]

/-- With a refusal marked no word of a trace program runs. -/
theorem runTrace_of_marked (ws : List OpWord) (h : s.refusalMark = some r) : runTrace ws s = s := by
  cases ws with
  | nil => rfl
  | cons w ws => simp [runTrace, admission_of_marked h, markRefused_of_marked h]

/-- A refused word ends the trace program: nothing changes but the mark. -/
theorem runTrace_of_refused (rest : List OpWord) (hadm : admission s = none)
    (h : runWord w s = .refused r) : runTrace (w :: rest) s = { s with refusalMark := some r } := by
  simp [runTrace, hadm, h, markRefused]

theorem runWord_of_reserved (h : decodeWord w = .error .reservedOpWord) (s : State) :
    runWord w s = .refused .reservedOpWord := by
  simp [runWord, h]

/-- The schedules hold words of the table only (30_encoding.md rule R86). -/
theorem scheduleWord_is_encoded {sch : Schedule} {u : StepIndex} (h : scheduleWord sch u = some w) :
    ∃ i, w = encode i := by
  unfold scheduleWord at h
  split at h
  case h_1 =>
    cases sch <;> cases h
    · exact ⟨.seqStep, rfl⟩
    · exact ⟨.hostLoad, rfl⟩
  case h_2 => cases h; exact ⟨.curve, rfl⟩
  case h_3 => cases h; exact ⟨.cycBegin, rfl⟩
  case h_4 => cases h; exact ⟨.cycIter, rfl⟩
  case h_5 => cases h; exact ⟨.cycEnd, rfl⟩
  case h_6 => cases h; exact ⟨.blink, rfl⟩
  case h_7 => cases h; exact ⟨.btnPoll, rfl⟩
  case h_8 => cases sch <;> cases h; exact ⟨.seqNext, rfl⟩

/-- Only SEQ.NEXT writes MODE, and it writes defined modes only (44_sequencer.md rule R180). -/
theorem exec_keeps_mode_defined {i : Instr} {t : State} (h : exec i s = .next t)
    (hs : s.mode ≠ .reserved) : t.mode ≠ .reserved := by
  by_cases hi : i = .seqNext
  case pos =>
    subst hi
    obtain ⟨_, _, rfl, hdefined⟩ := execSeqNext_next h
    exact hdefined
  case neg =>
    obtain ⟨-, -, -, -, -, -, -, -, hmode, -⟩ := onlyListedWriters i s t h
    rwa [hmode hi]

end Sys2Proof.Machine
end

section
/-! PROOFS. The refusals of words and of MODE 7, and the mark that they leave (60_exceptions.md rules
R202, R203, R206). -/

namespace Sys2Proof.Machine

/-- Settles O12: the decoder refuses just the reserved words, and the schedules hold encoded ones. -/
theorem reservedWordRefused : Obligations.ReservedWordRefused := by
  unfold Obligations.ReservedWordRefused
  constructor
  · intro s w rest hw hadm
    have hrefused := runWord_of_reserved (decodeWord_eq_reserved_iff.2 ((reserved_bits_iff w).1 hw))
    refine ⟨hrefused s, runTrace_of_refused rest hadm (hrefused s), fun hrst hd => ?_⟩
    rw [step_of_handed hrst hadm hd]
    exact hrefused _
  · intro sch u w hw
    obtain ⟨i, rfl⟩ := scheduleWord_is_encoded hw
    exact ⟨i, decodeWord_encode i⟩

/-- Settles O13: the mark is tested before anything runs, and a held reset clears it. -/
theorem refusalMarkSticks : Obligations.RefusalMarkSticks := by
  unfold Obligations.RefusalMarkSticks
  intro s r hmark
  exact ⟨fun hrst => step_of_not_admitted hrst (admission_of_marked hmark),
    fun ws => runTrace_of_marked ws hmark,
    fun hrst => ⟨holdReset s, step_of_rst hrst, rfl⟩⟩

/-- Settles O14: both micro-operations of the sequencer refuse MODE 7, and only SEQ.NEXT writes MODE. -/
theorem reservedModeRefused : Obligations.ReservedModeRefused := by
  unfold Obligations.ReservedModeRefused
  obtain ⟨-, hreserved, -⟩ := seqNextEffect
  refine ⟨fun s hmode => ?_, fun _ _ _ => exec_keeps_mode_defined, fun _ => Mode.noConfusion⟩
  have hstep := exec_seqStep_reserved hmode
  have hnext := hreserved s hmode
  refine ⟨hstep, hnext, fun hadm rest => ⟨?_, ?_⟩⟩
  · exact runTrace_of_refused rest hadm ((runWord_encode .seqStep s).trans hstep)
  · exact runTrace_of_refused rest hadm ((runWord_encode .seqNext s).trans hnext)

end Sys2Proof.Machine
end

section
/-! SUPPORT. The range check of the straps, read in the integrator's numbers (00_scope.md rule R9;
60_exceptions.md rule R204). -/

namespace Sys2Proof.Machine

variable {v : StrapNumbers} {b : BlinkTable} {c : Config}

/-- Every number lies in the range that 00_scope.md rule R9 gives its parameter. -/
def NumbersInRange (v : StrapNumbers) : Prop :=
  v.margin < 65536 ∧ v.fireComp < 65536 ∧ v.compPhase < 2 ∧
  v.clSentinel < 65536 ∧ v.tgtSentinel < 65536 ∧ 1 ≤ v.calibTicks ∧ v.calibTicks < 65536 ∧
  v.btnPattern < 256 ∧ v.levelMax < 4294967296 ∧
  (∀ st ∈ [v.stepUp, v.stepDown, v.stepOff, v.stepOn], 1 ≤ st ∧ st ≤ v.levelMax) ∧
  (∀ d ∈ [v.steadySemicycles, v.rampDownSemicycles], 1 ≤ d ∧ d ≤ 0xFFFFFFFF) ∧
  v.blink.length = 7 ∧ (∀ p ∈ v.blink, p.on ≤ 254 ∧ p.off ≤ 254)

/-- The configuration's straps have just the values that the numbers write. -/
def HasValues (c : Config) (v : StrapNumbers) : Prop :=
  c.margin.toNat = v.margin ∧ c.fireComp.toNat = v.fireComp ∧ c.pulseUs = v.pulseUs ∧
  c.compDelayUs = v.compDelayUs ∧ c.compPhase.toNat = v.compPhase ∧
  c.clSentinel.toNat = v.clSentinel ∧ c.tgtSentinel.toNat = v.tgtSentinel ∧
  c.calibTicks.toNat = v.calibTicks ∧ c.btnPattern.toNat = v.btnPattern ∧
  c.levelMax.toNat = v.levelMax ∧ c.stepUp.toNat = v.stepUp ∧ c.stepDown.toNat = v.stepDown ∧
  c.stepOff.toNat = v.stepOff ∧ c.stepOn.toNat = v.stepOn ∧
  c.steadySemicycles.toNat = v.steadySemicycles ∧ c.rampDownSemicycles.toNat = v.rampDownSemicycles ∧
  c.blink.patterns.map (fun p => (p.on.toNat, p.off.toNat)) = v.blink.map (fun p => (p.on, p.off)) ∧
  c.schedule = v.schedule ∧ c.tIterNs = v.tIterNs

theorem configInRange_iff (c : Config) : configInRange c = true ↔
    1 ≤ c.calibTicks.toNat ∧
    (∀ st ∈ [c.stepUp, c.stepDown, c.stepOff, c.stepOn],
      1 ≤ st.toNat ∧ st.toNat ≤ c.levelMax.toNat) ∧
    (∀ d ∈ [c.steadySemicycles, c.rampDownSemicycles], 1 ≤ d.toNat) ∧
    ∀ p ∈ c.blink.patterns, p.on.toNat ≤ 254 ∧ p.off.toNat ≤ 254 := by
  simp [configInRange, stepInRange, patternInRange, BitVec.le_def, and_assoc]

/-- On numbers that a configuration holds the model's check is the rule's. -/
theorem configInRange_iff_of_hasValues (h : HasValues c v) :
    configInRange c = true ↔ NumbersInRange v := by
  obtain ⟨hmargin, hfireComp, -, -, hcompPhase, hcl, htgt, hcalib, hbtn, hmax, hup, hdown, hoff, hon,
    hsteady, hrampDown, hblink, -, -⟩ := h
  have hlength : v.blink.length = 7 := by
    rw [← List.length_map (fun p : BlinkNumbers => (p.on, p.off)), ← hblink]; rfl
  have hpatterns : (∀ p ∈ c.blink.patterns, p.on.toNat ≤ 254 ∧ p.off.toNat ≤ 254) ↔
      ∀ p ∈ v.blink, p.on ≤ 254 ∧ p.off ≤ 254 := by
    have := congrArg (∀ q ∈ ·, q.1 ≤ 254 ∧ q.2 ≤ 254) hblink
    simpa only [List.forall_mem_map, eq_iff_iff] using this
  have h8 (x : Byte) : x.toNat < 256 := x.isLt
  have h16 (x : Word16) : x.toNat < 65536 := x.isLt
  have h32 (x : Word32) : x.toNat < 4294967296 := x.isLt
  have h32' (x : Word32) : x.toNat ≤ 0xFFFFFFFF := Nat.le_of_lt_succ x.isLt
  simp only [configInRange_iff, NumbersInRange, hpatterns, hlength, ← hmargin, ← hfireComp,
    ← hcompPhase, ← hcl, ← htgt, ← hcalib, ← hbtn, ← hmax, ← hup, ← hdown, ← hoff, ← hon, ← hsteady,
    ← hrampDown, h8, h16, h32, h32', Bool.toNat_lt, List.forall_mem_cons, List.not_mem_nil,
    false_implies, implies_true, true_and, and_true]

/-- Numbers that fit are held by the configuration that they make. -/
theorem strapsFit_iff (v : StrapNumbers) : strapsFit v = true ↔
    (v.margin < 65536 ∧ v.fireComp < 65536 ∧ v.clSentinel < 65536 ∧ v.tgtSentinel < 65536 ∧
      v.calibTicks < 65536) ∧ v.compPhase < 2 ∧ v.btnPattern < 256 ∧
    (v.levelMax < 4294967296 ∧ v.stepUp < 4294967296 ∧ v.stepDown < 4294967296 ∧
      v.stepOff < 4294967296 ∧ v.stepOn < 4294967296 ∧ v.steadySemicycles < 4294967296 ∧
      v.rampDownSemicycles < 4294967296) ∧
    ∀ p ∈ v.blink, p.on < 256 ∧ p.off < 256 := by
  simp [strapsFit, and_assoc]

theorem strapsFit_of_inRange (h : NumbersInRange v) : strapsFit v = true := by
  obtain ⟨hmargin, hfireComp, hcompPhase, hcl, htgt, -, hcalib, hbtn, hmax, hsteps, hdurations, -,
    hblink⟩ := h
  simp only [List.forall_mem_cons] at hsteps hdurations
  refine (strapsFit_iff v).2 ⟨by omega, hcompPhase, hbtn, by omega, fun p hp => ?_⟩
  have := hblink p hp
  omega

/-- Only a list of one pattern for each of the seven modes makes a blink table, of the patterns in the
list's order. -/
theorem blinkTableOf_cases (l : List BlinkNumbers) :
    (l.length ≠ 7 ∧ blinkTableOf l = none) ∨
      ∃ b, blinkTableOf l = some b ∧ b.patterns = l.map patternOf := by
  unfold blinkTableOf
  split
  case h_1 => exact .inr ⟨_, rfl, rfl⟩
  case h_2 hseven =>
    refine .inl ⟨fun hl => ?_, rfl⟩
    match l, hl with
    | [a, b, c, d, e, f, g], _ => exact hseven a b c d e f g rfl

/-- The configuration that numbers describe, with the blink table that their list makes. -/
def configFrom (v : StrapNumbers) (b : BlinkTable) : Config where
  margin := BitVec.ofNat 16 v.margin
  fireComp := BitVec.ofNat 16 v.fireComp
  pulseUs := v.pulseUs
  compDelayUs := v.compDelayUs
  compPhase := decide (v.compPhase = 1)
  clSentinel := BitVec.ofNat 16 v.clSentinel
  tgtSentinel := BitVec.ofNat 16 v.tgtSentinel
  calibTicks := BitVec.ofNat 16 v.calibTicks
  btnPattern := BitVec.ofNat 8 v.btnPattern
  levelMax := BitVec.ofNat 32 v.levelMax
  stepUp := BitVec.ofNat 32 v.stepUp
  stepDown := BitVec.ofNat 32 v.stepDown
  stepOff := BitVec.ofNat 32 v.stepOff
  stepOn := BitVec.ofNat 32 v.stepOn
  steadySemicycles := BitVec.ofNat 32 v.steadySemicycles
  rampDownSemicycles := BitVec.ofNat 32 v.rampDownSemicycles
  blink := b
  schedule := v.schedule
  tIterNs := v.tIterNs

/-- Numbers that fit their widths are taken as they are. -/
theorem configFrom_hasValues (hfit : strapsFit v = true) (hb : b.patterns = v.blink.map patternOf) :
    HasValues (configFrom v b) v := by
  obtain ⟨⟨hmargin, hfireComp, hcl, htgt, hcalib⟩, hphase, hbtn,
    ⟨hmax, hup, hdown, hoff, hon, hsteady, hrampDown⟩, hblink⟩ := (strapsFit_iff v).1 hfit
  have hbool : (decide (v.compPhase = 1)).toNat = v.compPhase := by
    obtain h | h : v.compPhase = 0 ∨ v.compPhase = 1 := by omega
    all_goals rw [h]; rfl
  refine ⟨Nat.mod_eq_of_lt hmargin, Nat.mod_eq_of_lt hfireComp, rfl, rfl, hbool, Nat.mod_eq_of_lt hcl,
    Nat.mod_eq_of_lt htgt, Nat.mod_eq_of_lt hcalib, Nat.mod_eq_of_lt hbtn, Nat.mod_eq_of_lt hmax,
    Nat.mod_eq_of_lt hup, Nat.mod_eq_of_lt hdown, Nat.mod_eq_of_lt hoff, Nat.mod_eq_of_lt hon,
    Nat.mod_eq_of_lt hsteady, Nat.mod_eq_of_lt hrampDown, ?_, rfl, rfl⟩
  change b.patterns.map _ = _
  rw [hb, List.map_map]
  refine List.map_congr_left fun p hp => ?_
  obtain ⟨hon, hoff⟩ := hblink p hp
  exact Prod.ext (Nat.mod_eq_of_lt hon) (Nat.mod_eq_of_lt hoff)

theorem configOf_of_blinkTable (hb : blinkTableOf v.blink = some b) : configOf v =
    if strapsFit v && configInRange (configFrom v b) then some (configFrom v b) else none := by
  rw [configOf, hb]; rfl

/-- The strap check, both ways: in range the numbers are taken as they are, else there is no
configuration. -/
theorem configOf_cases (v : StrapNumbers) :
    (NumbersInRange v ∧ ∃ c, configOf v = some c ∧ configInRange c = true ∧ HasValues c v) ∨
      (¬ NumbersInRange v ∧ configOf v = none) := by
  obtain ⟨hlength, hb⟩ | ⟨b, hb, hpatterns⟩ := blinkTableOf_cases v.blink
  · refine .inr ⟨?_, by rw [configOf, hb]⟩
    rintro ⟨-, -, -, -, -, -, -, -, -, -, -, hseven, -⟩
    exact hlength hseven
  · rw [configOf_of_blinkTable hb]
    by_cases hfit : strapsFit v = true
    case neg => exact .inr ⟨mt strapsFit_of_inRange hfit, by simp [hfit]⟩
    case pos =>
      have hvalues := configFrom_hasValues hfit hpatterns
      rw [← configInRange_iff_of_hasValues hvalues]
      by_cases hrange : configInRange (configFrom v b) = true
      · exact .inl ⟨hrange, _, by simp [hfit, hrange], hrange, hvalues⟩
      · exact .inr ⟨hrange, by simp [hrange]⟩

end Sys2Proof.Machine
end

section
/-! PROOFS. Straps out of range (60_exceptions.md rule R204). -/

namespace Sys2Proof.Machine

/-- Settles O15: numbers in range are exactly those that make a configuration, and without one in range
nothing is admitted. -/
theorem outOfRangeStrapsRefused : Obligations.OutOfRangeStrapsRefused := by
  unfold Obligations.OutOfRangeStrapsRefused
  refine ⟨fun v => ?_, fun s hcfg hrst hmark =>
    step_of_not_admitted hrst (admission_of_out_of_range hmark hcfg)⟩
  unfold powerOn
  obtain ⟨hin, c, hc, hrange, hvalues⟩ | ⟨hout, hnone⟩ := configOf_cases v
  · rw [hc]
    exact ⟨fun hout => absurd hin hout, fun _ => ⟨c, rfl, hrange, hvalues⟩⟩
  · rw [hnone]
    exact ⟨fun _ => rfl, fun hin => absurd hin hout⟩

end Sys2Proof.Machine
end

section
/-! SUPPORT. The block right after reset: what lets it run, its first rising step, and a CYC.BEGIN without
the compensating delay (70_reset_and_hazards.md rules R230, R234). -/

namespace Sys2Proof.Machine

variable {s : State} {c : Config}

theorem resetWith_cfg (c : Config) : (State.resetWith c).cfg = c := rfl

theorem resetWith_quiet (hrange : configInRange c = true) : (State.resetWith c).Quiet :=
  ⟨rfl, if_pos hrange⟩

theorem stepUp_le_levelMax (hrange : configInRange c = true) : c.stepUp ≤ c.levelMax := by
  obtain ⟨-, hsteps, -⟩ := (configInRange_iff c).1 hrange
  obtain ⟨-, hmax⟩ := hsteps c.stepUp (by simp)
  exact BitVec.le_def.2 hmax

theorem levelUp_zero {step levelMax : Word32} (h : step ≤ levelMax) : levelUp 0 step levelMax = step := by
  apply BitVec.eq_of_toNat_eq
  simpa [levelUp_toNat] using BitVec.le_def.1 h

theorem exec_cycBegin_of_no_delay (h : s.ph ≠ s.cfg.compPhase) :
    exec .cycBegin s = .next { s with cnt := 0, fired := false, zdone := false } := by
  simp [exec, execCycBegin, h]

/-- The block at its first loop's start: reset, but for what SEQ.STEP and CURVE wrote (rule R234). -/
def firstLoopStart (c : Config) : State :=
  { State.resetWith c with
    level := c.stepUp
    sl := scaledLevel c.stepUp
    bon := c.blink.rampUp.on
    boff := c.blink.rampUp.off
    tgt := curve c (scaledLevel c.stepUp) c.clSentinel }

/-- SEQ.STEP after reset, in RampUp and from LEVEL = 0. -/
theorem exec_seqStep_from_reset (hrange : configInRange c = true) :
    exec .seqStep (State.resetWith c) =
      .next (loadStep c.blink.rampUp { State.resetWith c with level := c.stepUp }) := by
  have hlevel : levelUp (State.resetWith c).level c.stepUp c.levelMax = c.stepUp :=
    levelUp_zero (stepUp_le_levelMax hrange)
  have hstep := exec_seqStep_rampUp (s := State.resetWith c) rfl
  rwa [resetWith_cfg, hlevel] at hstep

/-- The three micro-operations ahead of the first loop. Reset leaves PH = 0, so that COMP_PHASE = 1 means
no compensating delay. -/
theorem runInstrs_from_reset (hrange : configInRange c = true) (hphase : c.compPhase = true) :
    runInstrs [.seqStep, .curve, .cycBegin] (State.resetWith c) = .next (firstLoopStart c) := by
  have hno : (firstLoopStart c).ph ≠ (firstLoopStart c).cfg.compPhase := by
    simp [firstLoopStart, State.resetWith, hphase]
  rw [runInstrs_cons_next (exec_seqStep_from_reset hrange), runInstrs_cons_next (exec_curve _)]
  exact runInstrs_cons_next (exec_cycBegin_of_no_delay hno)

end Sys2Proof.Machine
end

section
/-! PROOFS. Reset, and the first pass after it (70_reset_and_hazards.md rules R230, R232, R234). -/

namespace Sys2Proof.Machine

/-- Settles O16: the state that a held reset answers, field by field. -/
theorem resetOverridesEverything : Obligations.ResetOverridesEverything :=
  fun _ hrst => step_of_rst hrst

/-- Settles O17: in FULL the schedule names SEQ.STEP, CURVE and CYC.BEGIN on its way to the loop. -/
theorem firstPassFromReset : Obligations.FirstPassFromReset := by
  unfold Obligations.FirstPassFromReset
  intro c hrange hsch hphase
  have hpath : straightEnd c.schedule [.seqStep, .curve, .cycBegin] 0 = some 3 := by rw [hsch]; rfl
  have hrun := runSteps_straight (resetWith_quiet hrange) hpath (runInstrs_from_reset hrange hphase)
  exact ⟨(firstLoopStart c).under .sequencer 3, hrun, rfl, rfl, rfl, rfl, rfl, rfl, rfl, rfl⟩

end Sys2Proof.Machine
end
